-- ==== Sys2Proof/Word.lean ====
section
/-! DEFINITION. The word types of the block (spec/00_scope.md R5, R9: every value is unsigned). -/

namespace Sys2Proof

/-- BYTE_W: an unsigned 8-bit value (R5, R9). -/
abbrev Byte := BitVec 8

/-- REQ_W: the 64-bit request word (R81). -/
abbrev ReqWord := BitVec 64

/-- RSP_W: the 64-bit response word (R87). -/
abbrev RspWord := BitVec 64

/-- DUR_W: a duration in timer ticks, unsigned 32 bits (R5, R25). -/
abbrev Duration := BitVec 32

/-- DATA: the 56 bits of a response that hold a packed frame (R87). -/
abbrev FrameWord := BitVec 56

end Sys2Proof
end

