-- ==== Sys2Proof/Syntax.lean ====
section
/-! DEFINITION. Syntax: the operations of spec/30_encoding.md R82, one constructor per row of spec/opcode_table.json. -/

namespace Sys2Proof

/-- A payload: exactly 4 bytes, cmd1 cmd2 data1 data2 (R76). -/
structure Payload where
  cmd1  : Byte
  cmd2  : Byte
  data1 : Byte
  data2 : Byte
deriving DecidableEq, Repr

/-- A frame: exactly 7 bytes, byte 0 to byte 6 in the order of R70. -/
structure Frame where
  sync     : Byte
  address  : Byte
  cmd1     : Byte
  cmd2     : Byte
  data1    : Byte
  data2    : Byte
  checksum : Byte
deriving DecidableEq, Repr

/-- The direction token of PAN_TILT (R83). The four known tokens are constructors of their own; a token 4 to 15
is unknown and stays representable (R90, 90_conflicts.md C2). -/
inductive Direction where
  | up
  | down
  | left
  | right
  | unknown (token : BitVec 4)
deriving DecidableEq, Repr

/-- The operations of R82 with the operands of R85. -/
inductive Instr where
  /-- R131 -/
  | stop
  /-- R132 -/
  | panRight
  /-- R133 -/
  | panLeft
  /-- R134 -/
  | tiltUp
  /-- R135 -/
  | tiltDown
  /-- R136 -/
  | zoomIn (dur : Duration)
  /-- R137 -/
  | zoomOut (dur : Duration)
  /-- R161 -/
  | setPreset (id : Byte)
  /-- R162 -/
  | clearPreset (id : Byte)
  /-- R163 -/
  | gotoPreset (id : Byte)
  /-- R138 -/
  | panTilt (dir : Direction) (dur : Duration)
  /-- R170: PLEN and the four byte lanes -/
  | sendCommand (plen : BitVec 4) (p : Payload)
  /-- R173 -/
  | setAddress (a : Byte)
  /-- R117 -/
  | validate (f : Frame)
  /-- R118 -/
  | encode (ea : Byte) (p : Payload)
  /-- R89: the reserved operation code 0xF -/
  | reservedF
deriving DecidableEq, Repr

end Sys2Proof
end

