-- ==== Sys2Proof/Decode.lean ====
section
/-! DEFINITION. The decoder and the encoder of the request word (spec/30_encoding.md R81 to R86). -/

namespace Sys2Proof

/-- OP, REQ[63:60] (R81). -/
def opField (w : ReqWord) : BitVec 4 := w.extractLsb' 60 4

/-- AUX, REQ[59:56] (R81): DIR of PAN_TILT, PLEN of SEND_COMMAND. -/
def auxField (w : ReqWord) : BitVec 4 := w.extractLsb' 56 4

/-- DUR, REQ[31:0] (R85). -/
def durField (w : ReqWord) : Duration := w.extractLsb' 0 32

/-- Byte `k` of OPERAND, counted from the most significant one: byte 0 is REQ[55:48], byte 6 is REQ[7:0] (R85: every
multi-byte operand is packed first byte in the most significant position). ID and A are byte 6. -/
def operandByte (w : ReqWord) (k : Nat) : Byte := w.extractLsb' (48 - 8 * k) 8

/-- The direction a token stands for (R83, R90). -/
def directionOf (aux : BitVec 4) : Direction :=
  match aux.toNat with
  | 0 => .up
  | 1 => .down
  | 2 => .left
  | 3 => .right
  | _ => .unknown aux

/-- Payload lane `k` of a SEND_COMMAND of declared length `plen`: ignored, and read as 0, when the length does not cover
it (R84; log 13). -/
def laneOf (plen : BitVec 4) (k : Nat) (b : Byte) : Byte :=
  if k < plen.toNat then b else 0

/-- The decoder: total, every one of the 2^64 words is one operation or the reserved one (R82, R86). Bits that an arm does
not read are ignored. -/
def decode (w : ReqWord) : Instr :=
  match (opField w).toNat with
  | 0x0 => .stop
  | 0x1 => .panRight
  | 0x2 => .panLeft
  | 0x3 => .tiltUp
  | 0x4 => .tiltDown
  | 0x5 => .zoomIn (durField w)
  | 0x6 => .zoomOut (durField w)
  | 0x7 => .setPreset (operandByte w 6)
  | 0x8 => .clearPreset (operandByte w 6)
  | 0x9 => .gotoPreset (operandByte w 6)
  | 0xA => .panTilt (directionOf (auxField w)) (durField w)
  | 0xB =>
    .sendCommand (auxField w)
      ⟨laneOf (auxField w) 0 (operandByte w 0), laneOf (auxField w) 1 (operandByte w 1),
        laneOf (auxField w) 2 (operandByte w 2), laneOf (auxField w) 3 (operandByte w 3)⟩
  | 0xC => .setAddress (operandByte w 6)
  | 0xD =>
    .validate
      ⟨operandByte w 0, operandByte w 1, operandByte w 2, operandByte w 3, operandByte w 4, operandByte w 5,
        operandByte w 6⟩
  | 0xE =>
    .encode (operandByte w 0) ⟨operandByte w 1, operandByte w 2, operandByte w 3, operandByte w 4⟩
  | _ => .reservedF

/-- The token of a direction (R83). -/
def Direction.token : Direction → BitVec 4
  | .up => 0
  | .down => 1
  | .left => 2
  | .right => 3
  | .unknown token => token

/-- A request word from its three fields (R81). -/
def reqWord (op aux : BitVec 4) (operand : BitVec 56) : ReqWord := op ++ aux ++ operand

/-- OPERAND of an operation with a duration: DUR in bits 31:0 (R85). -/
def durOperand (dur : Duration) : BitVec 56 := 0#24 ++ dur

/-- OPERAND of an operation with one byte, ID or A, in bits 7:0 (R85). -/
def byteOperand (b : Byte) : BitVec 56 := 0#48 ++ b

/-- The encoder: the request word of an instruction, every ignored bit 0 (R81, R82, R85, R93). -/
def encode : Instr → ReqWord
  | .stop => reqWord 0x0 0 0
  | .panRight => reqWord 0x1 0 0
  | .panLeft => reqWord 0x2 0 0
  | .tiltUp => reqWord 0x3 0 0
  | .tiltDown => reqWord 0x4 0 0
  | .zoomIn dur => reqWord 0x5 0 (durOperand dur)
  | .zoomOut dur => reqWord 0x6 0 (durOperand dur)
  | .setPreset id => reqWord 0x7 0 (byteOperand id)
  | .clearPreset id => reqWord 0x8 0 (byteOperand id)
  | .gotoPreset id => reqWord 0x9 0 (byteOperand id)
  | .panTilt dir dur => reqWord 0xA dir.token (durOperand dur)
  | .sendCommand plen p => reqWord 0xB plen (p.cmd1 ++ p.cmd2 ++ p.data1 ++ p.data2 ++ 0#24)
  | .setAddress a => reqWord 0xC 0 (byteOperand a)
  | .validate f => reqWord 0xD 0 (f.sync ++ f.address ++ f.cmd1 ++ f.cmd2 ++ f.data1 ++ f.data2 ++ f.checksum)
  | .encode ea p => reqWord 0xE 0 (ea ++ p.cmd1 ++ p.cmd2 ++ p.data1 ++ p.data2 ++ 0#16)
  | .reservedF => reqWord 0xF 0 0

/-- The OP code of each operation (R82). -/
def Instr.opcode : Instr → BitVec 4
  | .stop => 0x0
  | .panRight => 0x1
  | .panLeft => 0x2
  | .tiltUp => 0x3
  | .tiltDown => 0x4
  | .zoomIn _ => 0x5
  | .zoomOut _ => 0x6
  | .setPreset _ => 0x7
  | .clearPreset _ => 0x8
  | .gotoPreset _ => 0x9
  | .panTilt _ _ => 0xA
  | .sendCommand _ _ => 0xB
  | .setAddress _ => 0xC
  | .validate _ => 0xD
  | .encode _ _ => 0xE
  | .reservedF => 0xF

/-- The request word of `nbits` bits with the bits of `w`, every bit above them 0. -/
def tableWord (nbits w : Nat) : ReqWord := BitVec.ofNat 64 (w % 2 ^ nbits)

/-- The instruction the decoder reads from a table row's word. A request word is one 64-bit word (R81, R92), so there is
no byte order to apply, and a longer one does not exist (log 19). -/
def decodeTableWord (nbits w : Nat) : Option Instr :=
  if nbits ≤ 64 then some (decode (tableWord nbits w)) else none

end Sys2Proof
end

