-- ==== Sys2Proof/Machine/Codec.lean ====
section
/-! DEFINITION. FrameCodec: Encode, Validate and the checksum (spec/40_framecodec.md R110 to R116), pure functions of their
arguments; and the byte order of a frame on the wire (R44). -/

namespace Sys2Proof.Machine

/-- The checksum: the sum of the five bytes on mathematical integers, reduced modulo 256 (R74, R112). -/
def checksum (a : Byte) (p : Payload) : Byte :=
  BitVec.ofNat 8 ((a.toNat + p.cmd1.toNat + p.cmd2.toNat + p.data1.toNat + p.data2.toNat) % 256)

/-- `Encode(a, P)` (R110; SYNC of R71). -/
def encodeFrame (a : Byte) (p : Payload) : Frame :=
  { sync := 0xFF, address := a, cmd1 := p.cmd1, cmd2 := p.cmd2, data1 := p.data1, data2 := p.data2,
    checksum := checksum a p }

/-- The payload bytes of a frame, bytes 2 to 5 (R73). -/
def framePayload (f : Frame) : Payload := ⟨f.cmd1, f.cmd2, f.data1, f.data2⟩

/-- `Validate(F)`: byte 0 is 0xFF and byte 6 is the checksum of bytes 1 to 5 (R113). -/
def validateFrame (f : Frame) : Bool :=
  f.sync == 0xFF && f.checksum == checksum f.address (framePayload f)

/-- The bytes of a frame in the order they are written, byte 0 first (R42, R44). -/
def frameBytes (f : Frame) : List Byte :=
  [f.sync, f.address, f.cmd1, f.cmd2, f.data1, f.data2, f.checksum]

/-- A frame packed in DATA, byte 0 in bits 55 to 48 through byte 6 in bits 7 to 0 (R44, R87). -/
def packFrame (f : Frame) : FrameWord :=
  f.sync ++ f.address ++ f.cmd1 ++ f.cmd2 ++ f.data1 ++ f.data2 ++ f.checksum

end Sys2Proof.Machine
end

