-- ==== Sys2Proof/Config.lean ====
section
/-! DEFINITION. The open parameters and the free values of the block (spec/00_scope.md R5, spec/93_implementation_defined.md). -/

namespace Sys2Proof

/-- The default of CFG_ADDR, which is the reset value of ADDR when the configuration gives none (R5, R21). -/
def Config.defaultAddr : Byte := 0x01

/-- The default of CFG_DEBUG: off (R5, R22). -/
def Config.defaultDebug : Bool := false

/-- The default of TIMED_ABORT_ON_WRITE_FAIL (R5, R147). -/
def Config.defaultTimedAbort : Bool := true

/-- TICKS_PER_UNIT, OPEN (R5, R199, U14): no value of it can be proved (log 17). -/
opaque Config.ticksPerUnit : Nat

/-- FREE VALUE (R48, U6): whether the sink answers `ok` to a write for which no reply has been placed, by the number of
the draw (log 3). -/
opaque Config.freeSinkOk : Nat → Bool

/-- FREE VALUE (R48, U3): how many bytes of the frame the sink had transmitted when it answered `err` on a draw (log 3, 4). -/
opaque Config.freeSinkSent : Nat → Fin 8

/-- FREE VALUE (R25, U2): what TIMER holds once the stop frame has been answered, where the spec leaves it unspecified
(95_test_vectors.md V8, step 6; log 7). -/
opaque Config.freeTimer : Nat → Duration

end Sys2Proof
end

