-- ==== Sys2Proof/Machine/State.lean ====
section
/-! DEFINITION. The state of the block, its inputs and its observation (spec/10_state.md, spec/70_reset_and_hazards.md). -/

namespace Sys2Proof.Machine

/-- PHASE (R24). -/
inductive Phase where
  | idle
  | issue1
  | wait
  | issue2
  | respond
deriving DecidableEq, Repr

/-- STATUS of a response (R88, R190). -/
inductive Status where
  | ok
  | malformedCommand
  | sinkIoError
  | illegalOp
deriving DecidableEq, Repr

/-- What the block learns of a write: the sink's one-bit answer (R42). -/
inductive SinkAnswer where
  | ok
  | err
deriving DecidableEq, Repr

/-- What the sink does with a write: it accepts all 7 bytes, or it fails after transmitting the first `sent` of them
(R48, U3). The block sees the answer alone. -/
inductive SinkReply where
  | ok
  | err (sent : Fin 8)
deriving DecidableEq, Repr

/-- One sink write as observed: the frame and the sink's answer (R8 a). -/
structure SinkWrite where
  frame  : Frame
  answer : SinkAnswer
deriving DecidableEq, Repr

/-- One response: STATUS, FLAG, DATA (R87). -/
structure Response where
  status : Status
  flag   : Bool
  data   : FrameWord
deriving DecidableEq, Repr

/-- What the world outside does before the block's next step. `proceed`: the one party whose turn it is (R235) moves.
`hold`: it does not move yet (R148, R234: a party may take its time). `stall`: from here on no party outside does its duty
of R234, for ever, which is a hang of R235; no later move of the schedule comes (log 20). `reset`: the reset event with its two configuration
inputs (R220); `cut` says, when a sink write was under way, how many bytes of its frame the sink had (U4), and is `none`
when the write had not begun. -/
inductive EnvMove where
  | proceed
  | hold
  | stall
  | reset (cfgAddr : Byte) (cfgDebug : Bool) (cut : Option (Fin 8))
deriving DecidableEq, Repr

/-- The state of the block (R20), then the model's own fields: the latch of R147's second reading, the draw counter, the
inputs still to come and the observation so far (log 2, 9, 11, 22). -/
@[ext]
structure State where
  /-- ADDR (R21) -/
  addr : Byte
  /-- CFG_ADDR (R20, R21) -/
  cfgAddr : Byte
  /-- CFG_DEBUG (R22) -/
  cfgDebug : Bool
  /-- TIMED_ABORT_ON_WRITE_FAIL (R5, R147) -/
  cfgTimedAbort : Bool
  /-- PHASE (R24) -/
  phase : Phase
  /-- REQ_L (R26) -/
  reqL : ReqWord
  /-- TIMER (R25) -/
  timer : Duration
  /-- STATUS_L (R26) -/
  statusL : Status
  /-- FLAG_L (R26) -/
  flagL : Bool
  /-- DATA_L (R26) -/
  dataL : FrameWord
  /-- Model's own: the motion write of the timed operation in progress failed (R147; log 9). -/
  motionErr : Bool
  /-- Model's own: how many free values have been drawn (log 22). -/
  draws : Nat
  /-- Input: the host's requests not yet accepted, the first one presented (R95, R234; log 2). -/
  requests : List ReqWord
  /-- Input: the sink's replies to the next writes (R48; log 2, 3). -/
  replies : List SinkReply
  /-- Input: the moves of the world outside (R234; log 2, 20). -/
  schedule : List EnvMove
  /-- Observation: the sink writes so far, oldest first (R8 a). -/
  writes : List SinkWrite
  /-- Observation: the responses taken so far, oldest first (R8 b). -/
  responses : List Response
  /-- Observation: the bytes the sink has of the stream (R44, R45, R48; log 4). -/
  line : List Byte
  /-- Observation: the diagnostic stream (R201; log 12). -/
  echoes : List Frame
deriving DecidableEq, Repr

/-- The block right after a reset with the given configuration (R220, R221). The latches hold 0, which the spec leaves
unspecified (log 5); no request, reply or move is placed and nothing has been observed. -/
def State.resetWith (cfgAddr : Byte) (cfgDebug : Bool) : State :=
  { addr := cfgAddr, cfgAddr := cfgAddr, cfgDebug := cfgDebug, cfgTimedAbort := Config.defaultTimedAbort,
    phase := .idle, reqL := 0, timer := 0, statusL := .ok, flagL := false, dataL := 0, motionErr := false, draws := 0,
    requests := [], replies := [], schedule := [], writes := [], responses := [], line := [], echoes := [] }

/-- The machine right after reset, with the default configuration (R5, R221; log 6). -/
def State.reset : State := State.resetWith Config.defaultAddr Config.defaultDebug

/-- Why a step can stop. -/
inductive Fault where
  /-- Raised by the step of an operation in phase ISSUE1 that has no first frame (R95 sends it to RESPOND at once, so no
  run is ever there; R140 gives the step no payload to issue). Safe: the machine stops where the spec has no behaviour
  (log 15). -/
  | noFirstFrame
deriving DecidableEq, Repr

/-- Why an instruction has no meaning in the model. -/
inductive Refusal where
  /-- Raised by an arm of exec whose instruction is not modelled; no arm of this model does. Safe: nothing is claimed of
  the instruction. -/
  | notModelled (mnemonic : String)
deriving DecidableEq, Repr

end Sys2Proof.Machine
end

