-- ==== Sys2Proof/Machine/Flags.lean ====
section
/-! DEFINITION. The response fields: status codes, the response word, and the failures that set STATUS
(spec/30_encoding.md R87, R88, spec/60_exceptions.md R185 to R190). The block has no status flags of its own (R27). -/

namespace Sys2Proof.Machine

/-- The code of a status (R88, R190). -/
def statusCode : Status → BitVec 2
  | .ok => 0
  | .malformedCommand => 1
  | .sinkIoError => 2
  | .illegalOp => 3

/-- The response word RSP: STATUS 63:62, zeros 61:57, FLAG 56, DATA 55:0 (R87). -/
def responseWord (r : Response) : RspWord :=
  statusCode r.status ++ 0#5 ++ BitVec.ofBool r.flag ++ r.data

/-- The source's boolean result: true exactly when STATUS is OK (R87). -/
def responseSuccess (r : Response) : Bool := r.status == .ok

/-- The conditions that `raise` can name (R186, R188, R189). UnknownDirection is no failure (R187). -/
inductive Failure where
  | malformedCommand
  | sinkIoError
  | illegalOp
deriving DecidableEq, Repr

/-- The STATUS of a failure (R190). -/
def failureStatus : Failure → Status
  | .malformedCommand => .malformedCommand
  | .sinkIoError => .sinkIoError
  | .illegalOp => .illegalOp

/-- What the block learns of a reply: the answer, nothing else (R42). -/
def replyAnswer : SinkReply → SinkAnswer
  | .ok => .ok
  | .err _ => .err

/-- How many of a frame's 7 bytes the sink has after a reply (R48). -/
def replySent : SinkReply → Nat
  | .ok => 7
  | .err sent => sent.val

end Sys2Proof.Machine
end

