-- ==== Sys2Proof/Machine/Operands.lean ====
section
/-! DEFINITION. Operands: the payload table, the clamp of preset identifiers, the direction mapping, and the duration in
ticks (spec/30_encoding.md R77 to R79, spec/41_motion.md R145, spec/60_exceptions.md R199). -/

namespace Sys2Proof.Machine

/-- SPEED: the fixed speed byte (R78). -/
def speed : Byte := 0x20

/-- Row stop of the payload table (R77); the stop frame of a timed operation carries it too (R139). -/
def stopPayload : Payload := ⟨0x00, 0x00, 0x00, 0x00⟩

/-- Row pan_right (R77). -/
def panRightPayload : Payload := ⟨0x00, 0x02, speed, 0x00⟩

/-- Row pan_left (R77). -/
def panLeftPayload : Payload := ⟨0x00, 0x04, speed, 0x00⟩

/-- Row tilt_up (R77): the speed byte is in data2 (R78). -/
def tiltUpPayload : Payload := ⟨0x00, 0x08, 0x00, speed⟩

/-- Row tilt_down (R77). -/
def tiltDownPayload : Payload := ⟨0x00, 0x10, 0x00, speed⟩

/-- Row zoom_in (R77). -/
def zoomInPayload : Payload := ⟨0x00, 0x20, 0x00, 0x00⟩

/-- Row zoom_out (R77). -/
def zoomOutPayload : Payload := ⟨0x00, 0x40, 0x00, 0x00⟩

/-- `clamp(x, lo, hi)` on mathematical integers (R11). -/
def clamp (x lo hi : Int) : Int := max lo (min x hi)

/-- The preset byte `c = clamp(ID, 0, 127)` (R79, R160). -/
def clampId (id : Byte) : Byte := BitVec.ofInt 8 (clamp (Int.ofNat id.toNat) 0 127)

/-- The payload of a preset operation whose cmd2 byte is `k` (R77, R160). -/
def presetPayload (k id : Byte) : Payload := ⟨0x00, k, 0x00, clampId id⟩

/-- `DirPayload`: each known token selects the table row of the same name (R145); an unknown token selects none (R146). -/
def dirPayload : Direction → Option Payload
  | .up => some tiltUpPayload
  | .down => some tiltDownPayload
  | .left => some panLeftPayload
  | .right => some panRightPayload
  | .unknown _ => none

/-- PAYLOAD_LEN: the one declared length that SEND_COMMAND accepts (R5, R171). -/
def payloadLen : BitVec 4 := 4

/-- The DUR operand for a duration of `num/den` of the source's time units: `num / den * TICKS_PER_UNIT` when that is a
whole number of ticks that DUR can hold (R199; log 17). -/
def durationTicks (num den : Nat) : Option Duration :=
  if den ≠ 0 ∧ num * Config.ticksPerUnit % den = 0 ∧ num * Config.ticksPerUnit / den < 2 ^ 32 then
    some (BitVec.ofNat 32 (num * Config.ticksPerUnit / den))
  else none

end Sys2Proof.Machine
end

