-- ==== Sys2Proof/Machine/Ops.lean ====
section
/-! DEFINITION. The shared operations: the sink write path, raising a failure and the return from it, the five sequencer
steps, and reset (spec/20_memory.md, spec/41_motion.md section 4, spec/60_exceptions.md, spec/70_reset_and_hazards.md). -/

namespace Sys2Proof.Machine

/-- What an instruction's meaning answers. -/
abbrev StepResult := Host.Outcome State Fault Refusal

/-! ## The response, failures and the return -/

/-- `respond(status, flag, data)`: latch the response and enter phase RESPOND (R12, R26). -/
def respond (status : Status) (flag : Bool) (data : FrameWord) (s : State) : State :=
  { s with statusL := status, flagL := flag, dataL := data, phase := .respond }

/-- `raise`: the operation ends with the code of the failure, FLAG 0 and DATA 0, and nothing else changes (R13, R185,
R194). -/
def raise (f : Failure) (s : State) : State := respond (failureStatus f) false 0 s

/-- The step RESPOND to IDLE: the host takes the response, and nothing of the block but PHASE changes. It ends every
operation, failed or not (R95, R195). -/
def takeResponse (s : State) : State :=
  { s with phase := .idle, responses := s.responses ++ [⟨s.statusL, s.flagL, s.dataL⟩] }

/-! ## The sink write path -/

/-- The sink's reply to the next write: the first one placed, or a free draw (R48; log 3). -/
def nextReply (s : State) : SinkReply :=
  match s.replies with
  | r :: _ => r
  | [] => if Config.freeSinkOk s.draws then .ok else .err (Config.freeSinkSent s.draws)

/-- `DiagEcho(F)` when CFG_DEBUG is 1, otherwise nothing (R43, R201). -/
def diagEcho (f : Frame) (s : State) : State :=
  if s.cfgDebug then { s with echoes := s.echoes ++ [f] } else s

/-- `SinkWrite(F)` with its answer: one write of the whole frame, of which the sink has all 7 bytes, or a prefix when it
fails (R42, R48). -/
def sinkWrite (f : Frame) (s : State) : SinkAnswer × State :=
  (replyAnswer (nextReply s),
    { s with
      writes := s.writes ++ [⟨f, replyAnswer (nextReply s)⟩]
      line := s.line ++ (frameBytes f).take (replySent (nextReply s))
      replies := s.replies.tail
      draws := s.draws + 1 })

/-- `IssueFrame(P)`: encode with the ADDR of this moment, echo, write, and return the sink's answer (R43). -/
def issueFrame (p : Payload) (s : State) : SinkAnswer × State :=
  sinkWrite (encodeFrame s.addr p) (diagEcho (encodeFrame s.addr p) s)

/-! ## The sequencer steps -/

/-- The step that accepts the presented request: latch the word and run `k`, the rest of the step. Not enabled, and
nothing happens, while the host presents none (R95; log 16). -/
def accept (k : State → State) (s : State) : State :=
  match s.requests with
  | [] => s
  | w :: rest => k { s with requests := rest, reqL := w }

/-- Enter ISSUE1: the operation has a first frame to issue (R95). -/
def enterIssue1 (s : State) : State := { s with phase := .issue1 }

/-- Enter WAIT with TIMER loaded (R25, R140). `failed` remembers a failed motion write, which only the reading
TIMED_ABORT_ON_WRITE_FAIL = false gets here with (R147; log 9). -/
def enterWait (dur : Duration) (failed : Bool) (s : State) : State :=
  { s with timer := dur, motionErr := failed, phase := .wait }

/-- The ISSUE1 step for the first payload `p` and the duration `dur`, 0 for an operation without one (R140). With
TIMED_ABORT_ON_WRITE_FAIL = false a failed motion write is followed by the wait and the stop all the same (R147). -/
def issueFirst (p : Payload) (dur : Duration) (s : State) : State :=
  match issueFrame p s with
  | (.ok, t) => if dur = 0 then respond .ok false 0 t else enterWait dur false t
  | (.err, t) => if dur = 0 ∨ s.cfgTimedAbort = true then raise .sinkIoError t else enterWait dur true t

/-- The WAIT step: a tick while TIMER is above 0, and the step to ISSUE2 when it is 0 (R141). -/
def waitStep (s : State) : State :=
  if s.timer = 0 then { s with phase := .issue2 } else { s with timer := s.timer - 1 }

/-- TIMER takes a free value (R25: its value outside WAIT is unspecified; log 7). -/
def forgetTimer (s : State) : State :=
  { s with timer := Config.freeTimer s.draws, draws := s.draws + 1 }

/-- The ISSUE2 step: write the stop frame once and respond with its outcome (R142). With TIMED_ABORT_ON_WRITE_FAIL =
false a failed motion write makes the status SINK_IO_ERROR whatever this answer is (R147). -/
def issueStop (s : State) : State :=
  match issueFrame stopPayload s with
  | (.ok, t) =>
    if s.cfgTimedAbort = false ∧ s.motionErr = true then raise .sinkIoError (forgetTimer t)
    else respond .ok false 0 (forgetTimer t)
  | (.err, t) => raise .sinkIoError (forgetTimer t)

/-! ## The shapes of an operation, one sequencer step at a time -/

/-- `TimedMotion(P, DUR)`: motion frame, wait, stop frame (R139), in the phases of R140 to R142. -/
def timedMotion (p : Payload) (dur : Duration) (s : State) : StepResult :=
  match s.phase with
  | .idle => .next (accept enterIssue1 s)
  | .issue1 => .next (issueFirst p dur s)
  | .wait => .next (waitStep s)
  | .issue2 => .next (issueStop s)
  | .respond => .next (takeResponse s)

/-- `FixedOp(P)`: one frame, and never a wait (R130). -/
def fixedOp (p : Payload) (s : State) : StepResult := timedMotion p 0 s

/-- An operation that makes no sink write: `effect`, its whole effect with its response, is part of the accepting step
(R95). It has no first frame, so ISSUE1 has no step for it (log 15). -/
def immediate (effect : State → State) (s : State) : StepResult :=
  match s.phase with
  | .idle => .next (accept effect s)
  | .issue1 => .fault .noFirstFrame
  | .wait => .next (waitStep s)
  | .issue2 => .next (issueStop s)
  | .respond => .next (takeResponse s)

/-- `PresetOp(k, ID)` (R160). -/
def presetOp (k id : Byte) (s : State) : StepResult := fixedOp (presetPayload k id) s

/-! ## What the step runs, and reset -/

/-- The request word the next step works on: the presented one in IDLE, the latched one while an operation is in
progress (R26, R95). None in IDLE when the host presents none. -/
def currentWord (s : State) : Option ReqWord :=
  match s.phase with
  | .idle => s.requests.head?
  | .issue1 => some s.reqL
  | .wait => some s.reqL
  | .issue2 => some s.reqL
  | .respond => some s.reqL

/-- The block's own state after the reset event, from whatever phase it was in (R221, R222): ADDR is CFG_ADDR again, and
the operation in progress is gone with no response. What has been observed stays, and so do the inputs to come. The
latches hold the values of State.reset (log 5, 10). -/
def resetBlock (cfgAddr : Byte) (cfgDebug : Bool) (s : State) : State :=
  { State.resetWith cfgAddr cfgDebug with
    cfgTimedAbort := s.cfgTimedAbort
    draws := s.draws
    requests := s.requests
    replies := s.replies
    schedule := s.schedule
    writes := s.writes
    responses := s.responses
    line := s.line
    echoes := s.echoes }

end Sys2Proof.Machine
end

