-- ==== Sys2Proof/Machine/CodecOps.lean ====
section
/-! DEFINITION. VALIDATE and ENCODE: the codec on the request port (spec/40_framecodec.md R117, R118). -/

namespace Sys2Proof.Machine

/-- VALIDATE (R117): an invalid frame is a result, not a failure. -/
def execValidate (f : Frame) (s : State) : StepResult := immediate (respond .ok (validateFrame f) 0) s

/-- ENCODE (R118): the address is the operand EA, not ADDR. -/
def execEncode (ea : Byte) (p : Payload) (s : State) : StepResult :=
  immediate (respond .ok false (packFrame (encodeFrame ea p))) s

end Sys2Proof.Machine
end

