-- ==== Sys2Proof/Machine/Command.lean ====
section
/-! DEFINITION. SEND_COMMAND, SET_ADDRESS and the reserved operation code (spec/43_send_command_and_address.md R170, R173,
spec/30_encoding.md R89). -/

namespace Sys2Proof.Machine

/-- SEND_COMMAND (R170): the length check first, on the declared length alone (R171). -/
def execSendCommand (plen : BitVec 4) (p : Payload) (s : State) : StepResult :=
  if plen = payloadLen then fixedOp p s else immediate (raise .malformedCommand) s

/-- ADDR <- A; respond(OK, 0, 0) (R173). -/
def setAddr (a : Byte) (s : State) : State := respond .ok false 0 { s with addr := a }

/-- SET_ADDRESS (R173). -/
def execSetAddress (a : Byte) (s : State) : StepResult := immediate (setAddr a) s

/-- RESERVED_F: no effect, STATUS ILLEGAL_OP (R89, R189). -/
def execReservedF (s : State) : StepResult := immediate (raise .illegalOp) s

end Sys2Proof.Machine
end

