-- ==== Sys2Proof/Machine/Motion.lean ====
section
/-! DEFINITION. The motion operations (spec/41_motion.md R131 to R138). -/

namespace Sys2Proof.Machine

/-- STOP (R131). -/
def execStop (s : State) : StepResult := fixedOp stopPayload s

/-- PAN_RIGHT (R132). -/
def execPanRight (s : State) : StepResult := fixedOp panRightPayload s

/-- PAN_LEFT (R133). -/
def execPanLeft (s : State) : StepResult := fixedOp panLeftPayload s

/-- TILT_UP (R134). -/
def execTiltUp (s : State) : StepResult := fixedOp tiltUpPayload s

/-- TILT_DOWN (R135). -/
def execTiltDown (s : State) : StepResult := fixedOp tiltDownPayload s

/-- ZOOM_IN (R136). -/
def execZoomIn (dur : Duration) (s : State) : StepResult := timedMotion zoomInPayload dur s

/-- ZOOM_OUT (R137). -/
def execZoomOut (dur : Duration) (s : State) : StepResult := timedMotion zoomOutPayload dur s

/-- PAN_TILT (R138): an unknown direction is a no-op with STATUS OK, whatever the duration (R146). -/
def execPanTilt (dir : Direction) (dur : Duration) (s : State) : StepResult :=
  match dirPayload dir with
  | some p => timedMotion p dur s
  | none => immediate (respond .ok false 0) s

end Sys2Proof.Machine
end

