-- ==== Sys2Proof/Machine/Preset.lean ====
section
/-! DEFINITION. The preset operations (spec/42_preset.md R161 to R163). -/

namespace Sys2Proof.Machine

/-- SET_PRESET (R161). -/
def execSetPreset (id : Byte) (s : State) : StepResult := presetOp 0x03 id s

/-- CLEAR_PRESET (R162). -/
def execClearPreset (id : Byte) (s : State) : StepResult := presetOp 0x05 id s

/-- GOTO_PRESET (R163). -/
def execGotoPreset (id : Byte) (s : State) : StepResult := presetOp 0x07 id s

end Sys2Proof.Machine
end

