-- ==== Sys2Proof/Machine/Dispatch.lean ====
section
/-! DEFINITION. Dispatch: the sequencer step that each instruction makes in the phase of the state. -/

namespace Sys2Proof.Machine

/-- One arm per row of spec/opcode_table.json. -/
def exec (i : Instr) (s : State) : Host.Outcome State Fault Refusal :=
  match i with
  | .stop => Sys2Proof.Machine.execStop s
  | .panRight => Sys2Proof.Machine.execPanRight s
  | .panLeft => Sys2Proof.Machine.execPanLeft s
  | .tiltUp => Sys2Proof.Machine.execTiltUp s
  | .tiltDown => Sys2Proof.Machine.execTiltDown s
  | .zoomIn dur => Sys2Proof.Machine.execZoomIn dur s
  | .zoomOut dur => Sys2Proof.Machine.execZoomOut dur s
  | .setPreset id => Sys2Proof.Machine.execSetPreset id s
  | .clearPreset id => Sys2Proof.Machine.execClearPreset id s
  | .gotoPreset id => Sys2Proof.Machine.execGotoPreset id s
  | .panTilt dir dur => Sys2Proof.Machine.execPanTilt dir dur s
  | .sendCommand plen p => Sys2Proof.Machine.execSendCommand plen p s
  | .setAddress a => Sys2Proof.Machine.execSetAddress a s
  | .validate f => Sys2Proof.Machine.execValidate f s
  | .encode ea p => Sys2Proof.Machine.execEncode ea p s
  | .reservedF => Sys2Proof.Machine.execReservedF s

end Sys2Proof.Machine
end

