-- ==== Sys2Proof/Machine/Environment.lean ====
section
/-! DEFINITION. The moves of the world outside: running the party whose turn it is, and reset in mid-run
(spec/10_state.md R24, spec/70_reset_and_hazards.md R222, R234, R235). -/

namespace Sys2Proof.Machine

/-- The one enabled party moves (R235): the instruction of the current word makes the step of the present phase. In IDLE
with no request presented nothing is enabled, and the block stays silent (R224). -/
def runParty (s : State) : StepResult :=
  match currentWord s with
  | some w => exec (decode w) s
  | none => .next s

/-- What a reset that arrives while a sink write is under way leaves outside: the echo has been made and the sink has the
first `sent` bytes of the frame, and no answer comes (R222, U4; log 10). Only ISSUE1 and ISSUE2 write. -/
def cutWrite (sent : Fin 8) (s : State) : State :=
  match s.phase with
  | .idle => s
  | .issue1 =>
    match exec (decode s.reqL) { s with replies := [.err sent] } with
    | .next t => { s with line := t.line, echoes := t.echoes }
    | .fault _ => s
    | .refused _ => s
  | .wait => s
  | .issue2 =>
    match exec (decode s.reqL) { s with replies := [.err sent] } with
    | .next t => { s with line := t.line, echoes := t.echoes }
    | .fault _ => s
    | .refused _ => s
  | .respond => s

/-- The reset event (R220, R222). -/
def resetEvent (cfgAddr : Byte) (cfgDebug : Bool) (cut : Option (Fin 8)) (s : State) : State :=
  match cut with
  | none => resetBlock cfgAddr cfgDebug s
  | some sent => resetBlock cfgAddr cfgDebug (cutWrite sent s)

/-- Whether the next step waits for a duty of R234: the sink's answer, a tick, or the host's taking the response. In IDLE
nobody owes anything, and when TIMER is 0 the step of WAIT is BLOCK's own, taken under weak fairness (R148, R235). -/
def awaitsDuty (s : State) : Bool :=
  match s.phase with
  | .idle => false
  | .issue1 => true
  | .wait => decide (s.timer ≠ 0)
  | .issue2 => true
  | .respond => true

/-- The step when nobody outside does a duty any more: the block hangs where it waits for one, and moves where the step is
its own. The schedule stays as it is, so that a hang lasts (R235; log 20). -/
def stalledStep (s : State) : StepResult :=
  if awaitsDuty s then .next s else runParty s

/-- One step under the first move of the schedule. An empty schedule means that everybody moves at once and no reset comes
(log 2, 20). -/
def scheduledStep (s : State) : StepResult :=
  match s.schedule with
  | [] => runParty s
  | .proceed :: rest => runParty { s with schedule := rest }
  | .hold :: rest => .next { s with schedule := rest }
  | .stall :: _ => stalledStep s
  | .reset cfgAddr cfgDebug cut :: rest => .next (resetEvent cfgAddr cfgDebug cut { s with schedule := rest })

/-- The state in which the next step accepts the word `w`: the block idle, `w` presented first, nobody holding (log 14). -/
def presentWord (w : ReqWord) (s : State) : State :=
  { s with phase := .idle, schedule := [], requests := w :: s.requests }

end Sys2Proof.Machine
end

