-- ==== Sys2Proof/Machine/Step.lean ====
section
/-! DEFINITION. The step of the machine, and the placing of an instruction where the next step takes it. -/

namespace Sys2Proof.Machine

/-- One step of the block (R7, R24). -/
def step (s : State) : Host.Outcome State Fault Refusal := scheduledStep s

/-- `s` with the table word `w` of `nbits` bits presented on the request port, which takes the place of a fetch (R24, R95;
log 14). -/
def State.withFetchWord (s : State) (nbits w : Nat) : State := presentWord (tableWord nbits w) s

end Sys2Proof.Machine
end

