-- ==== Sys2Proof/Safety.lean ====
section
/-! DEFINITION. The terms that statements about the block use: the states a run can be in, the states an operation's rules
name, and what two states must share to look alike. -/

namespace Sys2Proof

/-- The operations that have a first frame to issue; every other one makes no sink write (R95). -/
def Instr.issuesFrame : Instr → Bool
  | .stop => true
  | .panRight => true
  | .panLeft => true
  | .tiltUp => true
  | .tiltDown => true
  | .zoomIn _ => true
  | .zoomOut _ => true
  | .setPreset _ => true
  | .clearPreset _ => true
  | .gotoPreset _ => true
  | .panTilt .up _ => true
  | .panTilt .down _ => true
  | .panTilt .left _ => true
  | .panTilt .right _ => true
  | .panTilt (.unknown _) _ => false
  | .sendCommand plen _ => plen == 4
  | .setAddress _ => false
  | .validate _ => false
  | .encode _ _ => false
  | .reservedF => false

/-- DUR of the operation, 0 for one without a duration (R85, R140). -/
def Instr.duration : Instr → Duration
  | .stop => 0
  | .panRight => 0
  | .panLeft => 0
  | .tiltUp => 0
  | .tiltDown => 0
  | .zoomIn dur => dur
  | .zoomOut dur => dur
  | .setPreset _ => 0
  | .clearPreset _ => 0
  | .gotoPreset _ => 0
  | .panTilt _ dur => dur
  | .sendCommand _ _ => 0
  | .setAddress _ => 0
  | .validate _ => 0
  | .encode _ _ => 0
  | .reservedF => 0

/-- The three operations under the timed-motion contract, each with the payload of its motion frame, byte by byte as the
table of R77 has it (R136, R137, R138, R145). -/
inductive Instr.TimedAs : Instr → Payload → Duration → Prop
  | zoomIn (dur : Duration) : Instr.TimedAs (.zoomIn dur) ⟨0x00, 0x20, 0x00, 0x00⟩ dur
  | zoomOut (dur : Duration) : Instr.TimedAs (.zoomOut dur) ⟨0x00, 0x40, 0x00, 0x00⟩ dur
  | up (dur : Duration) : Instr.TimedAs (.panTilt .up dur) ⟨0x00, 0x08, 0x00, 0x20⟩ dur
  | down (dur : Duration) : Instr.TimedAs (.panTilt .down dur) ⟨0x00, 0x10, 0x00, 0x20⟩ dur
  | left (dur : Duration) : Instr.TimedAs (.panTilt .left dur) ⟨0x00, 0x04, 0x20, 0x00⟩ dur
  | right (dur : Duration) : Instr.TimedAs (.panTilt .right dur) ⟨0x00, 0x02, 0x20, 0x00⟩ dur

namespace Machine

/-- A response has FLAG and DATA 0 unless STATUS is OK (R87). -/
def Response.Clean (r : Response) : Prop := r.status ≠ .ok → r.flag = false ∧ r.data = 0

/-- The invariant of every run: an operation is in a phase only if it has one (R24, R95, R140); TIMER does not exceed
DUR (R25); the latched response obeys R87, FLAG for VALIDATE alone and DATA for ENCODE alone; every frame handed to the
sink is valid (R75, R172); every response taken obeys R87. -/
structure State.Inv (s : State) : Prop where
  issue1_frame : s.phase = .issue1 → (decode s.reqL).issuesFrame = true
  wait_timed : s.phase = .wait → (decode s.reqL).issuesFrame = true ∧ (decode s.reqL).duration ≠ 0
  wait_timer : s.phase = .wait → s.timer ≤ (decode s.reqL).duration
  issue2_timed : s.phase = .issue2 → (decode s.reqL).issuesFrame = true ∧ (decode s.reqL).duration ≠ 0
  respond_clean : s.phase = .respond → Response.Clean ⟨s.statusL, s.flagL, s.dataL⟩
  respond_flag : s.phase = .respond → s.flagL = true → ∃ f, decode s.reqL = .validate f
  respond_data : s.phase = .respond → s.dataL ≠ 0 → ∃ a p, decode s.reqL = .encode a p
  writes_valid : ∀ w ∈ s.writes, validateFrame w.frame = true
  responses_clean : ∀ r ∈ s.responses, r.Clean

/-- `n` steps, one after another, stopping at the first fault or refusal; equal to the host's run of the core (lemma
steps_eq_core_run of Laws/Run.lean). -/
def steps : Nat → State → StepResult
  | 0, s => .next s
  | n + 1, s =>
    match step s with
    | .next t => steps n t
    | .fault r => .fault r
    | .refused r => .refused r

/-- The next move of the schedule is no reset. -/
def State.NoResetNow (s : State) : Prop :=
  ∀ a d c rest, s.schedule ≠ EnvMove.reset a d c :: rest

/-- No move of the schedule is a reset. -/
def State.NoResetAhead (s : State) : Prop := ∀ a d c, EnvMove.reset a d c ∉ s.schedule

/-- No reset among the next `k` moves of the schedule. -/
def State.NoResetWithin (k : Nat) (s : State) : Prop := ∀ a d c, EnvMove.reset a d c ∉ s.schedule.take k

/-- The duties of R234 are met: no stall among the moves of the schedule, so that every party moves in the end. -/
def State.DutiesMet (s : State) : Prop := EnvMove.stall ∉ s.schedule

/-- The state after accepting the word `w`, with an operation that has a first frame (R95). -/
def State.accepted (s : State) (w : ReqWord) (rest : List ReqWord) : State :=
  { s with requests := rest, reqL := w, phase := .issue1 }

/-- The state after accepting the word `w`, with an operation that responds at once and does nothing else (R95). -/
def State.answered (s : State) (w : ReqWord) (rest : List ReqWord) (status : Status) (flag : Bool)
    (data : FrameWord) : State :=
  { s with requests := rest, reqL := w, statusL := status, flagL := flag, dataL := data, phase := .respond }

/-- The state after the frame `f` has been echoed and written: one write with the sink's answer, on the line the bytes
that the sink has of it, one reply used up, and nothing else changed (R42, R43, R48, R201). -/
def State.wrote (s : State) (f : Frame) : State :=
  { s with
    echoes := if s.cfgDebug then s.echoes ++ [f] else s.echoes
    writes := s.writes ++ [⟨f, replyAnswer (nextReply s)⟩]
    line := s.line ++ [f.sync, f.address, f.cmd1, f.cmd2, f.data1, f.data2, f.checksum].take (replySent (nextReply s))
    replies := s.replies.tail
    draws := s.draws + 1 }

/-- The status that reports one write (R188, R190). -/
def SinkAnswer.status : SinkAnswer → Status
  | .ok => .ok
  | .err => .sinkIoError

/-- The state after an operation of one frame `f`: the write, and a response with its outcome, FLAG and DATA 0 (R130,
R140). -/
def State.wroteAndResponded (s : State) (f : Frame) : State :=
  { s.wrote f with
    statusL := (replyAnswer (nextReply s)).status
    flagL := false
    dataL := 0
    phase := .respond }

/-- The state after the ISSUE1 step of a timed operation with the motion frame `f` and the duration `dur`: with a duration
and a successful write, WAIT with TIMER loaded; with none, or with a failed write, the response. Only
TIMED_ABORT_ON_WRITE_FAIL = false waits after a failed write (R140, R147). -/
def State.wroteAndTimed (s : State) (f : Frame) (dur : Duration) : State :=
  if dur ≠ 0 ∧ (replyAnswer (nextReply s) = .ok ∨ s.cfgTimedAbort = false) then
    { s.wrote f with
      timer := dur
      motionErr := decide (replyAnswer (nextReply s) = .err)
      phase := .wait }
  else s.wroteAndResponded f

/-- The state whose next write is the one after this state's next write. -/
def State.afterReply (s : State) : State := { s with replies := s.replies.tail, draws := s.draws + 1 }

/-- The stop frame for the address `a` (R131). -/
def stopFrame (a : Byte) : Frame := ⟨0xFF, a, 0x00, 0x00, 0x00, 0x00, a⟩

/-- The state without the debug toggle and its stream (R201). -/
def State.quiet (s : State) : State := { s with cfgDebug := false, echoes := [] }

/-- The state without what has been observed (R8, R31). -/
def State.blind (s : State) : State := { s with writes := [], responses := [], line := [], echoes := [] }

/-- The state with 0 in every latch that its phase does not use (R20, R25, R26): REQ_L in IDLE, TIMER outside WAIT, the
response fields outside RESPOND, and the memory of a failed motion write outside WAIT and ISSUE2. -/
def State.scrubbed (s : State) : State :=
  { s with
    reqL := if s.phase = .idle then 0 else s.reqL
    timer := if s.phase = .wait then s.timer else 0
    statusL := if s.phase = .respond then s.statusL else .ok
    flagL := if s.phase = .respond then s.flagL else false
    dataL := if s.phase = .respond then s.dataL else 0
    motionErr := if s.phase = .wait ∨ s.phase = .issue2 then s.motionErr else false }

/-- The status of an operation of two writes: SINK_IO_ERROR if either failed (R147). -/
def twoWriteStatus : SinkAnswer → SinkAnswer → Status
  | .ok, .ok => .ok
  | .ok, .err => .sinkIoError
  | .err, _ => .sinkIoError

/-- How many steps an operation in progress still needs when nobody holds and no reset comes (R235). -/
def State.stepsLeft (s : State) : Nat :=
  match s.phase with
  | .idle => 0
  | .issue1 => (decode s.reqL).duration.toNat + 4
  | .wait => s.timer.toNat + 3
  | .issue2 => 2
  | .respond => 1

end Machine

end Sys2Proof
end

