-- ==== Sys2Proof/WellFormed.lean ====
section
/-! DEFINITION. Well-formed instructions: the terms that some request word stands for. -/

namespace Sys2Proof

/-- A direction is well formed when its unknown token is none of the four known ones (R83, R90). -/
def Direction.wellFormed : Direction → Bool
  | .up => true
  | .down => true
  | .left => true
  | .right => true
  | .unknown token => decide (3 < token.toNat)

/-- Lane `k` of SEND_COMMAND is zero unless the declared length covers it (R84: such lanes are not part of the payload
and are ignored; R93: an ignored bit is assembled as 0). -/
def laneWellFormed (plen : BitVec 4) (k : Nat) (b : Byte) : Bool :=
  decide (k < plen.toNat) || b == 0

/-- The well-formed instructions. Every operand but the two checked here fills its field of R85, so it has no ill-formed
value. -/
def Instr.wellFormed : Instr → Bool
  | .stop => true
  | .panRight => true
  | .panLeft => true
  | .tiltUp => true
  | .tiltDown => true
  | .zoomIn _ => true
  | .zoomOut _ => true
  | .setPreset _ => true
  | .clearPreset _ => true
  | .gotoPreset _ => true
  | .panTilt dir _ => dir.wellFormed
  | .sendCommand plen p =>
    laneWellFormed plen 0 p.cmd1 && laneWellFormed plen 1 p.cmd2 &&
      laneWellFormed plen 2 p.data1 && laneWellFormed plen 3 p.data2
  | .setAddress _ => true
  | .validate _ => true
  | .encode _ _ => true
  | .reservedF => true

end Sys2Proof
end

