-- ==== Sys2Proof/Certificates/Slice0/Obligations.lean ====
section
/-! DEFINITION. The statements about the block, for the provers. -/

open Sys2Proof Sys2Proof.Machine

/-! ## Request words, response words -/

/-- Decoding an encoded well-formed instruction gives it back: no bit of an operand is dropped. -/
def Obligations.DecodeOfEncodeIsIdentity : Prop :=
  ∀ i : Instr, i.wellFormed = true → decode (encode i) = i

/-- Every request word decodes to a well-formed instruction. -/
def Obligations.DecodedInstructionsAreWellFormed : Prop :=
  ∀ w : ReqWord, (decode w).wellFormed = true

/-- R81, R82, R83, R85: which operation a word is and where its operands stand, whatever the ignored bits hold. Every
word is three fields, so the clauses cover all 2^64 words. -/
def Obligations.RequestWordLayouts : Prop :=
  (∀ w : ReqWord, ∃ (op aux : BitVec 4) (x : BitVec 56), w = reqWord op aux x) ∧
  (∀ aux x, decode (reqWord 0x0 aux x) = .stop) ∧
  (∀ aux x, decode (reqWord 0x1 aux x) = .panRight) ∧
  (∀ aux x, decode (reqWord 0x2 aux x) = .panLeft) ∧
  (∀ aux x, decode (reqWord 0x3 aux x) = .tiltUp) ∧
  (∀ aux x, decode (reqWord 0x4 aux x) = .tiltDown) ∧
  (∀ aux (x : BitVec 24) (dur : Duration), decode (reqWord 0x5 aux (x ++ dur)) = .zoomIn dur) ∧
  (∀ aux (x : BitVec 24) (dur : Duration), decode (reqWord 0x6 aux (x ++ dur)) = .zoomOut dur) ∧
  (∀ aux (x : BitVec 48) (id : Byte), decode (reqWord 0x7 aux (x ++ id)) = .setPreset id) ∧
  (∀ aux (x : BitVec 48) (id : Byte), decode (reqWord 0x8 aux (x ++ id)) = .clearPreset id) ∧
  (∀ aux (x : BitVec 48) (id : Byte), decode (reqWord 0x9 aux (x ++ id)) = .gotoPreset id) ∧
  (∀ (x : BitVec 24) (dur : Duration), decode (reqWord 0xA 0 (x ++ dur)) = .panTilt .up dur) ∧
  (∀ (x : BitVec 24) (dur : Duration), decode (reqWord 0xA 1 (x ++ dur)) = .panTilt .down dur) ∧
  (∀ (x : BitVec 24) (dur : Duration), decode (reqWord 0xA 2 (x ++ dur)) = .panTilt .left dur) ∧
  (∀ (x : BitVec 24) (dur : Duration), decode (reqWord 0xA 3 (x ++ dur)) = .panTilt .right dur) ∧
  (∀ (token : BitVec 4) (x : BitVec 24) (dur : Duration), 4 ≤ token.toNat →
    decode (reqWord 0xA token (x ++ dur)) = .panTilt (.unknown token) dur) ∧
  (∀ (p0 p1 p2 p3 : Byte) (x : BitVec 24),
    decode (reqWord 0xB 4 (p0 ++ p1 ++ p2 ++ p3 ++ x)) = .sendCommand 4 ⟨p0, p1, p2, p3⟩) ∧
  (∀ (plen : BitVec 4) x, ∃ p, decode (reqWord 0xB plen x) = .sendCommand plen p) ∧
  (∀ aux (x : BitVec 48) (a : Byte), decode (reqWord 0xC aux (x ++ a)) = .setAddress a) ∧
  (∀ aux (f0 f1 f2 f3 f4 f5 f6 : Byte),
    decode (reqWord 0xD aux (f0 ++ f1 ++ f2 ++ f3 ++ f4 ++ f5 ++ f6)) = .validate ⟨f0, f1, f2, f3, f4, f5, f6⟩) ∧
  (∀ aux (ea e0 e1 e2 e3 : Byte) (x : BitVec 16),
    decode (reqWord 0xE aux (ea ++ e0 ++ e1 ++ e2 ++ e3 ++ x)) = .encode ea ⟨e0, e1, e2, e3⟩) ∧
  (∀ aux x, decode (reqWord 0xF aux x) = .reservedF)

/-- A few words of table V5 of 95_test_vectors.md decode as it says. -/
def Obligations.SampleRequestWordsDecode : Prop :=
  decode 0x1ABCDEF012345678 = .panRight ∧
  decode 0x5000000100000000 = .zoomIn 0 ∧
  decode 0x7F0000000000FFC8 = .setPreset 200 ∧
  decode 0xAF000000FFFFFFFF = .panTilt (.unknown 15) 4294967295 ∧
  decode 0xB4000220000FFFFF = .sendCommand 4 ⟨0x00, 0x02, 0x20, 0x00⟩ ∧
  decode 0xC5123456789ABC02 = .setAddress 0x02 ∧
  decode 0xD0FF010000000001 = .validate ⟨0xFF, 0x01, 0x00, 0x00, 0x00, 0x00, 0x01⟩ ∧
  decode 0xE0010003007FFFFF = .encode 0x01 ⟨0x00, 0x03, 0x00, 0x7F⟩ ∧
  decode 0xFFFFFFFFFFFFFFFF = .reservedF

/-- R87, R88: the fields of a response word, the status codes, and the bytes of a frame in DATA. -/
def Obligations.ResponseWordFields : Prop :=
  (∀ r : Response,
    (responseWord r).extractLsb' 62 2 = statusCode r.status ∧
    (responseWord r).extractLsb' 57 5 = 0 ∧
    (responseWord r).extractLsb' 56 1 = BitVec.ofBool r.flag ∧
    (responseWord r).extractLsb' 0 56 = r.data) ∧
  statusCode .ok = 0 ∧ statusCode .malformedCommand = 1 ∧ statusCode .sinkIoError = 2 ∧ statusCode .illegalOp = 3 ∧
  (∀ f : Frame,
    (packFrame f).extractLsb' 48 8 = f.sync ∧ (packFrame f).extractLsb' 40 8 = f.address ∧
    (packFrame f).extractLsb' 32 8 = f.cmd1 ∧ (packFrame f).extractLsb' 24 8 = f.cmd2 ∧
    (packFrame f).extractLsb' 16 8 = f.data1 ∧ (packFrame f).extractLsb' 8 8 = f.data2 ∧
    (packFrame f).extractLsb' 0 8 = f.checksum)

/-! ## FrameCodec -/

/-- R110, R71, R73: the seven bytes of an encoded frame. -/
def Obligations.EncodedFrameBytes : Prop :=
  ∀ (a : Byte) (p : Payload),
    (encodeFrame a p).sync = 0xFF ∧ (encodeFrame a p).address = a ∧
    (encodeFrame a p).cmd1 = p.cmd1 ∧ (encodeFrame a p).cmd2 = p.cmd2 ∧
    (encodeFrame a p).data1 = p.data1 ∧ (encodeFrame a p).data2 = p.data2 ∧
    (encodeFrame a p).checksum.toNat =
      (a.toNat + p.cmd1.toNat + p.cmd2.toNat + p.data1.toNat + p.data2.toNat) % 256

/-- R111: Encode is injective, and every frame has the sync byte first and the sum modulo 256 last. -/
def Obligations.EncodeIsInjective : Prop :=
  (∀ (a b : Byte) (p q : Payload), encodeFrame a p = encodeFrame b q → a = b ∧ p = q) ∧
  (∀ (a : Byte) (p : Payload), (frameBytes (encodeFrame a p)).length = 7 ∧
    (frameBytes (encodeFrame a p)).head? = some 0xFF ∧
    (frameBytes (encodeFrame a p)).getLast? =
      some (BitVec.ofNat 8 ((a.toNat + p.cmd1.toNat + p.cmd2.toNat + p.data1.toNat + p.data2.toNat) % 256)))

/-- R112: the checksum is the 8-bit sum with every carry discarded, in any order, and the rule's corner cases. -/
def Obligations.ChecksumIsWrappingSum : Prop :=
  (∀ (a : Byte) (p : Payload), checksum a p = a + p.cmd1 + p.cmd2 + p.data1 + p.data2) ∧
  (∀ a b c d e : Byte, ∀ l : List Byte, l.Perm [a, b, c, d, e] → checksum a ⟨b, c, d, e⟩ = l.foldl (· + ·) 0) ∧
  checksum 0x00 ⟨0x00, 0x00, 0x00, 0x00⟩ = 0x00 ∧ checksum 0xFF ⟨0xFF, 0xFF, 0xFF, 0xFF⟩ = 0xFB ∧
  checksum 0x80 ⟨0x80, 0x00, 0x00, 0x00⟩ = 0x00 ∧ checksum 0x01 ⟨0x00, 0x00, 0x00, 0x00⟩ = 0x01

/-- R113: what Validate accepts, exactly. -/
def Obligations.ValidateAcceptsExactly : Prop :=
  ∀ f : Frame, validateFrame f = true ↔
    f.sync = 0xFF ∧
      f.checksum.toNat =
        (f.address.toNat + f.cmd1.toNat + f.cmd2.toNat + f.data1.toNat + f.data2.toNat) % 256

/-- R114: the valid frames are exactly the images of Encode. -/
def Obligations.ValidFramesAreTheEncodedOnes : Prop :=
  (∀ (a : Byte) (p : Payload), validateFrame (encodeFrame a p) = true) ∧
  (∀ f : Frame, validateFrame f = true → f = encodeFrame f.address ⟨f.cmd1, f.cmd2, f.data1, f.data2⟩)

/-- R115: a changed checksum byte, or exactly one changed byte of bytes 1 to 5, makes a valid frame invalid; two changed
bytes can leave it valid. -/
def Obligations.OneChangedByteInvalidates : Prop :=
  (∀ (f : Frame) (b : Byte), validateFrame f = true →
    (b ≠ f.checksum → validateFrame { f with checksum := b } = false) ∧
    (b ≠ f.address → validateFrame { f with address := b } = false) ∧
    (b ≠ f.cmd1 → validateFrame { f with cmd1 := b } = false) ∧
    (b ≠ f.cmd2 → validateFrame { f with cmd2 := b } = false) ∧
    (b ≠ f.data1 → validateFrame { f with data1 := b } = false) ∧
    (b ≠ f.data2 → validateFrame { f with data2 := b } = false)) ∧
  (∀ f : Frame, validateFrame f = true →
    validateFrame { f with cmd1 := f.cmd1 + 1, cmd2 := f.cmd2 - 1 } = true)

/-- R79: the clamp on mathematical integers, on the 8-bit identifier, and the two data bytes it gives. -/
def Obligations.PresetIdentifierClamp : Prop :=
  (∀ x : Int, (x < 0 → clamp x 0 127 = 0) ∧ (127 < x → clamp x 0 127 = 127) ∧
    (0 ≤ x → x ≤ 127 → clamp x 0 127 = x)) ∧
  (∀ id : Byte, (clampId id).toNat = min id.toNat 127 ∧
    clampId id = (if id.getLsbD 7 then 0x7F else id)) ∧
  (∀ k id : Byte, (presetPayload k id).data1 = 0x00 ∧ (presetPayload k id).data2 = clampId id)

/-! ## The operations: decoding, accepting, and the effect -/

/-- R131: STOP. Its last clause is the rule's remark that a wait accepts no request. -/
def Obligations.StopOperation : Prop :=
  (∀ w : ReqWord, w.extractLsb' 60 4 = 0x0 → decode w = .stop) ∧
  (∀ (s : State) (w : ReqWord) (rest : List ReqWord), s.phase = .idle → s.requests = w :: rest →
    exec .stop s = .next (s.accepted w rest)) ∧
  (∀ s : State, s.phase = .issue1 →
    exec .stop s = .next (s.wroteAndResponded ⟨0xFF, s.addr, 0x00, 0x00, 0x00, 0x00, s.addr⟩)) ∧
  (∀ (i : Instr) (s t : State), s.phase = .wait → exec i s = .next t → t.requests = s.requests)

/-- R132, R133, R134, R135: PAN_RIGHT, PAN_LEFT, TILT_UP, TILT_DOWN. -/
def Obligations.UntimedMotionOperations : Prop :=
  (∀ w : ReqWord, (w.extractLsb' 60 4 = 0x1 → decode w = .panRight) ∧ (w.extractLsb' 60 4 = 0x2 → decode w = .panLeft) ∧
    (w.extractLsb' 60 4 = 0x3 → decode w = .tiltUp) ∧ (w.extractLsb' 60 4 = 0x4 → decode w = .tiltDown)) ∧
  (∀ (s : State) (w : ReqWord) (rest : List ReqWord), s.phase = .idle → s.requests = w :: rest →
    exec .panRight s = .next (s.accepted w rest) ∧ exec .panLeft s = .next (s.accepted w rest) ∧
    exec .tiltUp s = .next (s.accepted w rest) ∧ exec .tiltDown s = .next (s.accepted w rest)) ∧
  (∀ s : State, s.phase = .issue1 →
    exec .panRight s = .next (s.wroteAndResponded ⟨0xFF, s.addr, 0x00, 0x02, 0x20, 0x00, s.addr + 0x22⟩) ∧
    exec .panLeft s = .next (s.wroteAndResponded ⟨0xFF, s.addr, 0x00, 0x04, 0x20, 0x00, s.addr + 0x24⟩) ∧
    exec .tiltUp s = .next (s.wroteAndResponded ⟨0xFF, s.addr, 0x00, 0x08, 0x00, 0x20, s.addr + 0x28⟩) ∧
    exec .tiltDown s = .next (s.wroteAndResponded ⟨0xFF, s.addr, 0x00, 0x10, 0x00, 0x20, s.addr + 0x30⟩))

/-- The accepting and the ISSUE1 step of ZOOM_IN and ZOOM_OUT (R136, R137; the wait and the stop frame are stated for
every instruction by WaitStepOfEveryInstruction and StopFrameStepOfEveryInstruction). -/
def Obligations.ZoomOperations : Prop :=
  (∀ w : ReqWord, (w.extractLsb' 60 4 = 0x5 → decode w = .zoomIn (w.extractLsb' 0 32)) ∧
    (w.extractLsb' 60 4 = 0x6 → decode w = .zoomOut (w.extractLsb' 0 32))) ∧
  (∀ (s : State) (w : ReqWord) (rest : List ReqWord) (dur : Duration), s.phase = .idle → s.requests = w :: rest →
    exec (.zoomIn dur) s = .next (s.accepted w rest) ∧ exec (.zoomOut dur) s = .next (s.accepted w rest)) ∧
  (∀ (s : State) (dur : Duration), s.phase = .issue1 →
    exec (.zoomIn dur) s = .next (s.wroteAndTimed ⟨0xFF, s.addr, 0x00, 0x20, 0x00, 0x00, s.addr + 0x20⟩ dur) ∧
    exec (.zoomOut dur) s = .next (s.wroteAndTimed ⟨0xFF, s.addr, 0x00, 0x40, 0x00, 0x00, s.addr + 0x40⟩ dur))

/-- The accepting and the ISSUE1 step of PAN_TILT: it sends the frame of the row its direction names (R145), and an unknown
direction is a no-op with STATUS OK whatever the duration (R146). What a failed write does follows
TIMED_ABORT_ON_WRITE_FAIL, either value of it (R140, R147; log 9). -/
def Obligations.PanTiltOperation : Prop :=
  (∀ (s : State) (w : ReqWord) (rest : List ReqWord) (dur : Duration), s.phase = .idle → s.requests = w :: rest →
    exec (.panTilt .up dur) s = .next (s.accepted w rest) ∧ exec (.panTilt .down dur) s = .next (s.accepted w rest) ∧
    exec (.panTilt .left dur) s = .next (s.accepted w rest) ∧ exec (.panTilt .right dur) s = .next (s.accepted w rest) ∧
    ∀ token, exec (.panTilt (.unknown token) dur) s = .next (s.answered w rest .ok false 0)) ∧
  (∀ (s : State) (dur : Duration), s.phase = .issue1 →
    exec (.panTilt .up dur) s = .next (s.wroteAndTimed ⟨0xFF, s.addr, 0x00, 0x08, 0x00, 0x20, s.addr + 0x28⟩ dur) ∧
    exec (.panTilt .down dur) s = .next (s.wroteAndTimed ⟨0xFF, s.addr, 0x00, 0x10, 0x00, 0x20, s.addr + 0x30⟩ dur) ∧
    exec (.panTilt .left dur) s = .next (s.wroteAndTimed ⟨0xFF, s.addr, 0x00, 0x04, 0x20, 0x00, s.addr + 0x24⟩ dur) ∧
    exec (.panTilt .right dur) s = .next (s.wroteAndTimed ⟨0xFF, s.addr, 0x00, 0x02, 0x20, 0x00, s.addr + 0x22⟩ dur))

/-- R161, R162, R163: the preset operations, with the clamp written out. -/
def Obligations.PresetOperations : Prop :=
  (∀ w : ReqWord, (w.extractLsb' 60 4 = 0x7 → decode w = .setPreset (w.extractLsb' 0 8)) ∧
    (w.extractLsb' 60 4 = 0x8 → decode w = .clearPreset (w.extractLsb' 0 8)) ∧
    (w.extractLsb' 60 4 = 0x9 → decode w = .gotoPreset (w.extractLsb' 0 8))) ∧
  (∀ (s : State) (w : ReqWord) (rest : List ReqWord) (id : Byte), s.phase = .idle → s.requests = w :: rest →
    exec (.setPreset id) s = .next (s.accepted w rest) ∧ exec (.clearPreset id) s = .next (s.accepted w rest) ∧
    exec (.gotoPreset id) s = .next (s.accepted w rest)) ∧
  (∀ (s : State) (id c : Byte), s.phase = .issue1 → c.toNat = min id.toNat 127 →
    exec (.setPreset id) s = .next (s.wroteAndResponded ⟨0xFF, s.addr, 0x00, 0x03, 0x00, c, s.addr + 0x03 + c⟩) ∧
    exec (.clearPreset id) s = .next (s.wroteAndResponded ⟨0xFF, s.addr, 0x00, 0x05, 0x00, c, s.addr + 0x05 + c⟩) ∧
    exec (.gotoPreset id) s = .next (s.wroteAndResponded ⟨0xFF, s.addr, 0x00, 0x07, 0x00, c, s.addr + 0x07 + c⟩))

/-- R170, R171, R186: SEND_COMMAND sends any four bytes when the declared length is 4, and otherwise responds
MALFORMED_COMMAND, code 1, with no write. -/
def Obligations.SendCommandOperation : Prop :=
  (∀ w : ReqWord, w.extractLsb' 60 4 = 0xB → w.extractLsb' 56 4 = 4 →
    decode w = .sendCommand 4
      ⟨w.extractLsb' 48 8, w.extractLsb' 40 8, w.extractLsb' 32 8, w.extractLsb' 24 8⟩) ∧
  (∀ w : ReqWord, w.extractLsb' 60 4 = 0xB → ∃ p, decode w = .sendCommand (w.extractLsb' 56 4) p) ∧
  (∀ (s : State) (w : ReqWord) (rest : List ReqWord) (plen : BitVec 4) (p : Payload),
    s.phase = .idle → s.requests = w :: rest → plen ≠ 4 →
    exec (.sendCommand plen p) s = .next (s.answered w rest .malformedCommand false 0)) ∧
  statusCode .malformedCommand = 1 ∧
  (∀ (s : State) (w : ReqWord) (rest : List ReqWord) (p : Payload), s.phase = .idle → s.requests = w :: rest →
    exec (.sendCommand 4 p) s = .next (s.accepted w rest)) ∧
  (∀ (s : State) (p : Payload), s.phase = .issue1 →
    exec (.sendCommand 4 p) s = .next (s.wroteAndResponded
      ⟨0xFF, s.addr, p.cmd1, p.cmd2, p.data1, p.data2, s.addr + p.cmd1 + p.cmd2 + p.data1 + p.data2⟩))

/-- R173: SET_ADDRESS writes ADDR, any value, and responds OK with no write to the sink. -/
def Obligations.SetAddressOperation : Prop :=
  (∀ w : ReqWord, w.extractLsb' 60 4 = 0xC → decode w = .setAddress (w.extractLsb' 0 8)) ∧
  (∀ (s : State) (w : ReqWord) (rest : List ReqWord) (a : Byte), s.phase = .idle → s.requests = w :: rest →
    exec (.setAddress a) s = .next { s.answered w rest .ok false 0 with addr := a })

/-- R117: VALIDATE responds OK, with FLAG telling whether the frame is valid. -/
def Obligations.ValidateOperation : Prop :=
  (∀ w : ReqWord, w.extractLsb' 60 4 = 0xD → decode w = .validate
    ⟨w.extractLsb' 48 8, w.extractLsb' 40 8, w.extractLsb' 32 8, w.extractLsb' 24 8, w.extractLsb' 16 8,
      w.extractLsb' 8 8, w.extractLsb' 0 8⟩) ∧
  (∀ (s : State) (w : ReqWord) (rest : List ReqWord) (f : Frame), s.phase = .idle → s.requests = w :: rest →
    exec (.validate f) s = .next (s.answered w rest .ok
      (decide (f.sync = 0xFF ∧ f.checksum = f.address + f.cmd1 + f.cmd2 + f.data1 + f.data2)) 0))

/-- R118: ENCODE responds OK with the frame in DATA, from its own address operand. -/
def Obligations.EncodeOperation : Prop :=
  (∀ w : ReqWord, w.extractLsb' 60 4 = 0xE → decode w = .encode (w.extractLsb' 48 8)
    ⟨w.extractLsb' 40 8, w.extractLsb' 32 8, w.extractLsb' 24 8, w.extractLsb' 16 8⟩) ∧
  (∀ (s : State) (w : ReqWord) (rest : List ReqWord) (ea : Byte) (p : Payload),
    s.phase = .idle → s.requests = w :: rest →
    exec (.encode ea p) s = .next (s.answered w rest .ok false
      (0xFF#8 ++ ea ++ p.cmd1 ++ p.cmd2 ++ p.data1 ++ p.data2 ++ (ea + p.cmd1 + p.cmd2 + p.data1 + p.data2))))

/-- R89, R189: the reserved code has no effect but its response ILLEGAL_OP, code 3. -/
def Obligations.ReservedOperation : Prop :=
  (∀ w : ReqWord, w.extractLsb' 60 4 = 0xF → decode w = .reservedF) ∧
  (∀ (s : State) (w : ReqWord) (rest : List ReqWord), s.phase = .idle → s.requests = w :: rest →
    exec .reservedF s = .next (s.answered w rest .illegalOp false 0)) ∧
  statusCode .illegalOp = 3

/-- The operations of R46 that make no write, make none: no sink write, no byte on the line, no echo (R201). -/
def Obligations.OperationsWithoutFrameWriteNothing : Prop :=
  ∀ (i : Instr) (s t : State), i.issuesFrame = false → s.phase = .idle → exec i s = .next t →
    t.writes = s.writes ∧ t.line = s.line ∧ t.echoes = s.echoes ∧ t.replies = s.replies ∧ t.draws = s.draws

/-- Equivalences of R94: the four directions, and STOP and the table rows as raw payloads. -/
def Obligations.OperationsWithEqualMeaning : Prop :=
  ∀ s : State,
    exec .panRight s = exec (.panTilt .right 0) s ∧ exec .panLeft s = exec (.panTilt .left 0) s ∧
    exec .tiltUp s = exec (.panTilt .up 0) s ∧ exec .tiltDown s = exec (.panTilt .down 0) s ∧
    exec .stop s = exec (.sendCommand 4 ⟨0x00, 0x00, 0x00, 0x00⟩) s ∧
    exec .panRight s = exec (.sendCommand 4 ⟨0x00, 0x02, 0x20, 0x00⟩) s ∧
    exec (.zoomIn 0) s = exec (.sendCommand 4 ⟨0x00, 0x20, 0x00, 0x00⟩) s ∧
    exec (.zoomOut 0) s = exec (.sendCommand 4 ⟨0x00, 0x40, 0x00, 0x00⟩) s ∧
    exec (.setPreset 200) s = exec (.sendCommand 4 ⟨0x00, 0x03, 0x00, 0x7F⟩) s

/-- Two identifiers above 127 give the same operation (R164). -/
def Obligations.PresetsAbove127Coincide : Prop :=
  ∀ (a b : Byte) (s : State), 127 ≤ a.toNat → 127 ≤ b.toNat →
    exec (.setPreset a) s = exec (.setPreset b) s ∧ exec (.clearPreset a) s = exec (.clearPreset b) s ∧
    exec (.gotoPreset a) s = exec (.gotoPreset b) s

/-- R174: the frame that an operation issues under another ADDR differs in the address byte and the checksum only, and in
the checksum by the same amount. -/
def Obligations.AddressChangesTwoFrameBytes : Prop :=
  ∀ (i : Instr) (s : State) (b : Byte), i.issuesFrame = true → s.phase = .issue1 →
    ∃ t u f g a c, exec i s = .next t ∧ exec i { s with addr := b } = .next u ∧
      t.writes = s.writes ++ [⟨f, a⟩] ∧ u.writes = s.writes ++ [⟨g, c⟩] ∧ a = c ∧
      f.address = s.addr ∧ g.address = b ∧ f.sync = g.sync ∧ f.cmd1 = g.cmd1 ∧ f.cmd2 = g.cmd2 ∧
      f.data1 = g.data1 ∧ f.data2 = g.data2 ∧ g.checksum - f.checksum = b - s.addr

/-! ## The sequencer steps, for every instruction -/

/-- R95: accepting an operation that has a first frame latches the word and enters ISSUE1. -/
def Obligations.AcceptingStep : Prop :=
  ∀ (i : Instr) (s : State) (w : ReqWord) (rest : List ReqWord), i.issuesFrame = true → s.phase = .idle →
    s.requests = w :: rest → exec i s = .next (s.accepted w rest)

/-- R141: in WAIT, a tick while TIMER is above 0, the step to ISSUE2 when it is 0, and nothing else. -/
def Obligations.WaitStepOfEveryInstruction : Prop :=
  ∀ (i : Instr) (s : State), s.phase = .wait →
    (s.timer ≠ 0 → exec i s = .next { s with timer := s.timer - 1 }) ∧
    (s.timer = 0 → exec i s = .next { s with phase := .issue2 })

/-- R142: in ISSUE2, one write of the stop frame, and the response it decides. TIMER is left unspecified, as is the
model's draw counter. -/
def Obligations.StopFrameStepOfEveryInstruction : Prop :=
  ∀ (i : Instr) (s : State), s.phase = .issue2 → s.cfgTimedAbort = true →
    ∃ t timer draws, exec i s = .next t ∧
      t = { s.wroteAndResponded (stopFrame s.addr) with timer := timer, draws := draws }

/-- The step from RESPOND to IDLE delivers the latched response and changes nothing else of the block (R95). -/
def Obligations.TakingTheResponse : Prop :=
  ∀ (i : Instr) (s : State), s.phase = .respond →
    exec i s = .next { s with phase := .idle, responses := s.responses ++ [⟨s.statusL, s.flagL, s.dataL⟩] }

/-- R147: a failed motion write ends the operation with one write attempted; a failed stop write gives SINK_IO_ERROR after
the second; and the other reading, TIMED_ABORT_ON_WRITE_FAIL = false. -/
def Obligations.FailureInsideATimedOperation : Prop :=
  (∀ (i : Instr) (p : Payload) (dur : Duration) (s : State), i.TimedAs p dur → s.phase = .issue1 →
    s.cfgTimedAbort = true → replyAnswer (nextReply s) = .err →
    exec i s = .next (s.wroteAndResponded (encodeFrame s.addr p))) ∧
  (∀ (i : Instr) (s : State), s.phase = .issue2 → replyAnswer (nextReply s) = .err →
    ∃ t, exec i s = .next t ∧ t.phase = .respond ∧ t.statusL = .sinkIoError ∧ t.flagL = false ∧ t.dataL = 0 ∧
      t.addr = s.addr ∧ t.writes = s.writes ++ [⟨stopFrame s.addr, .err⟩]) ∧
  (∀ (i : Instr) (p : Payload) (dur : Duration) (s : State), i.TimedAs p dur → dur ≠ 0 → s.phase = .issue1 →
    s.cfgTimedAbort = false → replyAnswer (nextReply s) = .err →
    exec i s = .next { s.wrote (encodeFrame s.addr p) with timer := dur, motionErr := true, phase := .wait }) ∧
  (∀ (i : Instr) (s : State), s.phase = .issue2 → s.cfgTimedAbort = false →
    ∃ t, exec i s = .next t ∧ t.phase = .respond ∧
      t.writes = s.writes ++ [⟨stopFrame s.addr, replyAnswer (nextReply s)⟩] ∧
      (t.statusL = .sinkIoError ↔ s.motionErr = true ∨ replyAnswer (nextReply s) = .err))

/-- An operation that ends in a failure changes no architectural state and responds with FLAG 0 and DATA 0 (R185,
R194). -/
def Obligations.FailureChangesNoArchitecturalState : Prop :=
  ∀ (i : Instr) (s t : State), exec i s = .next t → s.phase ≠ .respond → t.phase = .respond → t.statusL ≠ .ok →
    t.addr = s.addr ∧ t.cfgAddr = s.cfgAddr ∧ t.cfgDebug = s.cfgDebug ∧ t.cfgTimedAbort = s.cfgTimedAbort ∧
    t.flagL = false ∧ t.dataL = 0 ∧ t.responses = s.responses

/-- SINK_IO_ERROR is reported at the write that failed, and at no other step (R188). -/
def Obligations.SinkErrorComesFromAFailedWrite : Prop :=
  ∀ (i : Instr) (s t : State), exec i s = .next t → s.cfgTimedAbort = true → s.phase ≠ .respond →
    t.phase = .respond → (t.statusL = .sinkIoError ↔ ∃ f, t.writes = s.writes ++ [⟨f, .err⟩])

/-- MALFORMED_COMMAND and ILLEGAL_OP have one cause each, and are reported by the accepting step, with no write (R186,
R189). -/
def Obligations.MalformedAndIllegalHaveOneCause : Prop :=
  ∀ (i : Instr) (s t : State), exec i s = .next t → s.phase ≠ .respond → t.phase = .respond →
    (t.statusL = .malformedCommand ↔ s.phase = .idle ∧ ∃ plen p, i = .sendCommand plen p ∧ plen ≠ 4) ∧
    (t.statusL = .illegalOp ↔ s.phase = .idle ∧ i = .reservedF) ∧
    (t.statusL = .malformedCommand ∨ t.statusL = .illegalOp →
      t.writes = s.writes ∧ t.line = s.line ∧ t.echoes = s.echoes)

/-! ## The step -/

/-- The step runs the decoded instruction: in IDLE that of the presented word, in every other phase that of the latched
one; with `proceed` first in the schedule it is used up, and exec does the rest; a `stall` (log 20) stays, and stops only the steps
that await a duty, not the accepting step nor the one that ends a wait. A placed table word is run by the very
next step. -/
def Obligations.StepRunsTheDecodedInstruction : Prop :=
  (∀ (s : State) (w : ReqWord) (rest : List ReqWord), s.phase = .idle → s.requests = w :: rest →
    (s.schedule = [] → step s = exec (decode w) s) ∧
    (∀ moves, s.schedule = .proceed :: moves → step s = exec (decode w) { s with schedule := moves }) ∧
    (∀ moves, s.schedule = .stall :: moves → step s = exec (decode w) s)) ∧
  (∀ s : State, s.phase ≠ .idle →
    (s.schedule = [] → step s = exec (decode s.reqL) s) ∧
    (∀ moves, s.schedule = .proceed :: moves → step s = exec (decode s.reqL) { s with schedule := moves }) ∧
    (∀ moves, s.schedule = .stall :: moves → s.phase = .wait → s.timer = 0 → step s = exec (decode s.reqL) s)) ∧
  (∀ (s : State) (nbits w : Nat),
    step (s.withFetchWord nbits w) = exec (decode (BitVec.ofNat 64 (w % 2 ^ nbits))) (s.withFetchWord nbits w))

/-- The block stays in IDLE, silent, until a request comes (R224). -/
def Obligations.IdleBlockIsSilent : Prop :=
  ∀ s : State, s.phase = .idle → s.requests = [] →
    (s.schedule = [] → step s = .next s) ∧
    (∀ moves, s.schedule = .proceed :: moves → step s = .next { s with schedule := moves }) ∧
    (∀ moves, s.schedule = .stall :: moves → step s = .next s)

/-- The model's `hold` moves (log 20) let a party take its time and change nothing. -/
def Obligations.HoldingChangesNothing : Prop :=
  ∀ (s : State) (moves : List EnvMove), s.schedule = .hold :: moves → step s = .next { s with schedule := moves }

/-- R235: the three waits can last for ever, and only reset leaves them. While nobody does the duty that the block awaits, the
model's `stall` (log 20), no number of steps changes anything; and a reset after any number of holds leads to IDLE. -/
def Obligations.HangsLastUntilReset : Prop :=
  (∀ (s : State) (moves : List EnvMove) (k : Nat), s.schedule = .stall :: moves →
    s.phase = .issue1 ∨ s.phase = .issue2 ∨ (s.phase = .wait ∧ s.timer ≠ 0) ∨ s.phase = .respond →
    steps k s = .next s) ∧
  (∀ (s : State) (n : Nat) (a : Byte) (d : Bool) (c : Option (Fin 8)) (moves : List EnvMove),
    s.schedule = List.replicate n .hold ++ .reset a d c :: moves →
    steps n s = .next { s with schedule := .reset a d c :: moves } ∧
    ∃ t, steps (n + 1) s = .next t ∧ t.phase = .idle ∧ t.addr = a ∧ t.schedule = moves ∧ t.responses = s.responses)

/-- R222: reset abandons the operation in progress, from any phase: no response, no stop frame, ADDR reloaded; the sink
may have got a prefix of the frame whose write was under way, the one the step would have written. -/
def Obligations.ResetAbandonsTheOperation : Prop :=
  ∀ (s : State) (a : Byte) (d : Bool) (c : Option (Fin 8)) (moves : List EnvMove),
    s.schedule = .reset a d c :: moves →
    ∃ t, step s = .next t ∧ t.phase = .idle ∧ t.addr = a ∧ t.cfgAddr = a ∧ t.cfgDebug = d ∧ t.schedule = moves ∧
      t.responses = s.responses ∧ t.writes = s.writes ∧ t.requests = s.requests ∧
      (s.phase ≠ .issue1 → s.phase ≠ .issue2 → t.line = s.line) ∧
      (s.phase = .issue1 ∨ s.phase = .issue2 → ∀ u x, exec (decode s.reqL) s = .next u → u.writes = s.writes ++ [x] →
        ∃ n ≤ 7, t.line = s.line ++ (frameBytes x.frame).take n)

/-- R221: the state after reset. The latches, which the rule leaves unspecified, are not named. -/
def Obligations.StateAfterReset : Prop :=
  (∀ (a : Byte) (d : Bool),
    (State.resetWith a d).addr = a ∧ (State.resetWith a d).cfgAddr = a ∧ (State.resetWith a d).cfgDebug = d ∧
    (State.resetWith a d).phase = .idle ∧ (State.resetWith a d).responses = [] ∧ (State.resetWith a d).requests = [] ∧
    (State.resetWith a d).writes = [] ∧ (State.resetWith a d).line = []) ∧
  State.reset = State.resetWith 0x01 false

/-! ## Invariants -/

/-- The invariant holds after reset, with any configuration. -/
def Obligations.InvariantHoldsAtReset : Prop :=
  State.reset.Inv ∧ ∀ (a : Byte) (d : Bool), (State.resetWith a d).Inv

/-- Every step keeps the invariant, whatever the inputs, holds and resets. -/
def Obligations.EveryStepKeepsTheInvariant : Prop :=
  ∀ s t : State, s.Inv → step s = .next t → t.Inv

/-- No state of the invariant faults or refuses: the block itself has no fault state and no stuck state (R235); a hang is a
party outside not doing its duty, and answers a next state too. -/
def Obligations.InvariantStatesNeverStop : Prop :=
  ∀ s : State, s.Inv → ∃ t, step s = .next t

/-- R24: the phase changes of the block are the listed ones; WAIT is left when TIMER is 0 and not before. -/
def Obligations.PhaseTransitionsAreTheListedOnes : Prop :=
  ∀ s t : State, s.NoResetNow → step s = .next t →
    t.phase = s.phase ∨
    (s.phase = .idle ∧ (t.phase = .issue1 ∨ t.phase = .respond)) ∨
    (s.phase = .issue1 ∧ (t.phase = .wait ∨ t.phase = .respond)) ∨
    (s.phase = .wait ∧ s.timer = 0 ∧ t.phase = .issue2) ∨
    (s.phase = .issue2 ∧ t.phase = .respond) ∨
    (s.phase = .respond ∧ t.phase = .idle)

/-- ADDR is written by SET_ADDRESS and by reset, and by nothing else (R21). -/
def Obligations.AddrIsWrittenBySetAddressOnly : Prop :=
  ∀ s t : State, s.NoResetNow → step s = .next t → t.addr ≠ s.addr →
    s.phase = .idle ∧ ∃ w rest, s.requests = w :: rest ∧ decode w = .setAddress t.addr

/-- No operation changes the configuration (R22, R5). -/
def Obligations.ConfigurationIsFixed : Prop :=
  ∀ s t : State, s.NoResetNow → step s = .next t →
    t.cfgAddr = s.cfgAddr ∧ t.cfgDebug = s.cfgDebug ∧ t.cfgTimedAbort = s.cfgTimedAbort

/-- The choke point: a step makes at most one write, in ISSUE1 or ISSUE2, and it is a valid frame encoded with the present
ADDR, with the sink's answer to it; the line gets a prefix of it, all 7 bytes when the answer is `ok` (R172, R75, R46, R48). -/
def Obligations.EveryWriteIsOneEncodedFrame : Prop :=
  ∀ s t : State, s.NoResetNow → step s = .next t →
    (t.writes = s.writes ∧ t.line = s.line) ∨
    ((s.phase = .issue1 ∨ s.phase = .issue2) ∧
      ∃ (p : Payload) (r : SinkReply), r = nextReply s ∧
        validateFrame (encodeFrame s.addr p) = true ∧
        t.writes = s.writes ++ [⟨encodeFrame s.addr p, replyAnswer r⟩] ∧
        ∃ n ≤ 7, t.line = s.line ++ (frameBytes (encodeFrame s.addr p)).take n ∧ (replyAnswer r = .ok → n = 7))

/-- A response is delivered by the step from RESPOND to IDLE, one at a time, and by no other step (R87, R95). -/
def Obligations.ResponsesAreDeliveredFromRespond : Prop :=
  ∀ s t : State, step s = .next t →
    t.responses = s.responses ∨
    (s.phase = .respond ∧ t.phase = .idle ∧ t.responses = s.responses ++ [⟨s.statusL, s.flagL, s.dataL⟩])

/-- While PHASE is not IDLE no request is accepted: the host's requests wait, and the latched word stays until the
operation is over (R26, R95). -/
def Obligations.RequestsWaitWhileBusy : Prop :=
  ∀ s t : State, s.phase ≠ .idle → step s = .next t → t.requests = s.requests ∧ (s.NoResetNow → t.reqL = s.reqL)

/-! ## What has no effect -/

/-- The debug toggle changes no frame, no status and no sequencing (R22, R201). -/
def Obligations.DebugToggleHasNoEffect : Prop :=
  ∀ s t : State, step s = .next t → ∃ u, step s.quiet = .next u ∧ u.quiet = t.quiet

/-- What has been observed is never read: the block keeps no knowledge of what it has sent (R31). -/
def Obligations.ObservationsAreNeverRead : Prop :=
  ∀ s t : State, step s = .next t → ∃ u, step s.blind = .next u ∧ u.blind = t.blind

/-- A latch that its phase does not use is never read, so no value the model names for one shows in anything (R20, R25,
R26; log 5). -/
def Obligations.UnusedLatchesAreNeverRead : Prop :=
  ∀ s t : State, step s = .next t → ∃ u, step s.scrubbed = .next u ∧ u.scrubbed = t.scrubbed

/-! ## Whole operations -/

/-- The timed-motion contract of R139, from the presented request to the latched response, under both readings of
TIMED_ABORT_ON_WRITE_FAIL (R147, log 9) and however long anybody holds, which rests on the model's schedule (log 2, 20). A
duration of 0, or a failed motion write that aborts, leaves one write; otherwise the motion frame, at least DUR ticks, and the
stop frame, and SINK_IO_ERROR if either write failed. TIMER and the model's own counter and latch are left open in the last
clause; the schedule is what is left of it. -/
def Obligations.TimedMotionContract : Prop :=
  ∀ (s : State) (w : ReqWord) (rest : List ReqWord) (p : Payload) (dur : Duration),
    s.phase = .idle → s.NoResetAhead → s.DutiesMet → s.requests = w :: rest → (decode w).TimedAs p dur →
    (dur = 0 ∨ (replyAnswer (nextReply s) = .err ∧ s.cfgTimedAbort = true) →
      ∃ (n : Nat) (moves : List EnvMove),
        steps n s = .next { (s.accepted w rest).wroteAndResponded (encodeFrame s.addr p) with schedule := moves }) ∧
    (dur ≠ 0 → replyAnswer (nextReply s) = .ok ∨ s.cfgTimedAbort = false →
      ∃ (n : Nat) (t : State) (timer : Duration) (draws : Nat) (failed : Bool) (moves : List EnvMove),
        dur.toNat + 4 ≤ n ∧ steps n s = .next t ∧
          t = { ((s.accepted w rest).wrote (encodeFrame s.addr p)).wroteAndResponded (stopFrame s.addr) with
                statusL := twoWriteStatus (replyAnswer (nextReply s)) (replyAnswer (nextReply s.afterReply))
                timer := timer, draws := draws, motionErr := failed, schedule := moves })

/-- The wait is a lower bound that nothing but reset shortens: whatever is presented and however long anybody holds or hangs
(log 20), in the first `k` steps of a wait with at least `k` ticks to go, none of them a reset, the block stays in WAIT,
writes nothing and accepts nothing (R143, R148). -/
def Obligations.WaitIsALowerBound : Prop :=
  ∀ (k : Nat) (s t : State), s.phase = .wait → s.NoResetWithin k → k ≤ s.timer.toNat → steps k s = .next t →
    t.phase = .wait ∧ s.timer.toNat ≤ t.timer.toNat + k ∧ t.writes = s.writes ∧ t.line = s.line ∧
    t.requests = s.requests ∧ t.responses = s.responses ∧ t.addr = s.addr

/-- Every operation in progress ends when the duties of R234 are met: with no reset, within the ticks of its wait, four more
steps and as many as anybody holds (log 20), after at most two sink writes, with exactly one response and no request accepted
on the way (R235, R46, R87). -/
def Obligations.EveryOperationEnds : Prop :=
  ∀ s : State, s.Inv → s.NoResetAhead → s.DutiesMet → s.phase ≠ .idle →
    ∃ (n : Nat) (t : State), n ≤ s.stepsLeft + s.schedule.length ∧ steps n s = .next t ∧ t.phase = .idle ∧
      t.requests = s.requests ∧ t.addr = s.addr ∧ (∃ r, t.responses = s.responses ++ [r]) ∧
      (∃ l, t.writes = s.writes ++ l ∧ l.length ≤ 2)
end

