-- ==== Sys2Proof/Laws/Decode.lean ====
section
/-! SUPPORT. Request words as numbers: what concatenating and cutting fields does to a value. -/

namespace Sys2Proof

theorem toNat_append_eq {n m : Nat} (x : BitVec n) (y : BitVec m) :
    (x ++ y).toNat = x.toNat * 2 ^ m + y.toNat := by
  rw [BitVec.toNat_append, ← Nat.shiftLeft_add_eq_or_of_lt y.isLt, Nat.shiftLeft_eq]

theorem toNat_extract {n : Nat} (w : BitVec n) (lo len : Nat) :
    (w.extractLsb' lo len).toNat = w.toNat / 2 ^ lo % 2 ^ len := by
  rw [BitVec.extractLsb'_toNat, Nat.shiftRight_eq_div_pow]

theorem reqWord_toNat (op aux : BitVec 4) (x : BitVec 56) :
    (reqWord op aux x).toNat = (op.toNat * 2 ^ 4 + aux.toNat) * 2 ^ 56 + x.toNat :=
  (toNat_append_eq (op ++ aux) x).trans (by rw [toNat_append_eq])

theorem durOperand_toNat (d : Duration) : (durOperand d).toNat = d.toNat :=
  (toNat_append_eq 0#24 d).trans (by simp)

theorem byteOperand_toNat (b : Byte) : (byteOperand b).toNat = b.toNat :=
  (toNat_append_eq 0#48 b).trans (by simp)

theorem opField_toNat (w : ReqWord) : (opField w).toNat = w.toNat / 2 ^ 60 % 2 ^ 4 := toNat_extract w 60 4

theorem auxField_toNat (w : ReqWord) : (auxField w).toNat = w.toNat / 2 ^ 56 % 2 ^ 4 := toNat_extract w 56 4

theorem durField_toNat (w : ReqWord) : (durField w).toNat = w.toNat % 2 ^ 32 := by
  simp [durField]

theorem operandByte_toNat (w : ReqWord) (k : Nat) :
    (operandByte w k).toNat = w.toNat / 2 ^ (48 - 8 * k) % 2 ^ 8 := toNat_extract w _ 8

/-- OP of a word made of its three fields is the first of them (R81). -/
theorem opField_reqWord (op aux : BitVec 4) (x : BitVec 56) : opField (reqWord op aux x) = op := by
  apply BitVec.eq_of_toNat_eq
  have := op.isLt; have := aux.isLt; have := x.isLt
  rw [opField_toNat, reqWord_toNat]
  omega

/-- AUX of a word made of its three fields is the second of them (R81). -/
theorem auxField_reqWord (op aux : BitVec 4) (x : BitVec 56) : auxField (reqWord op aux x) = aux := by
  apply BitVec.eq_of_toNat_eq
  have := op.isLt; have := aux.isLt; have := x.isLt
  rw [auxField_toNat, reqWord_toNat]
  omega

/-- DUR of a word made of its three fields is the low half of OPERAND (R85). -/
theorem durField_reqWord (op aux : BitVec 4) (x : BitVec 56) :
    (durField (reqWord op aux x)).toNat = x.toNat % 2 ^ 32 := by
  rw [durField_toNat, reqWord_toNat]
  omega

/-- An OPERAND whose low 32 bits are DUR, as a number. -/
theorem toNat_append_dur (x : BitVec 24) (d : Duration) :
    BitVec.toNat (w := 56) (x ++ d) = x.toNat * 2 ^ 32 + d.toNat := toNat_append_eq x d

/-- An OPERAND whose low 8 bits are one byte, as a number. -/
theorem toNat_append_byte (x : BitVec 48) (b : Byte) :
    BitVec.toNat (w := 56) (x ++ b) = x.toNat * 2 ^ 8 + b.toNat := toNat_append_eq x b

/-- An OPERAND of the four payload lanes of SEND_COMMAND, as a number. -/
theorem toNat_append_payload (a b c d : Byte) (x : BitVec 24) :
    BitVec.toNat (w := 56) (a ++ b ++ c ++ d ++ x) =
      (((a.toNat * 256 + b.toNat) * 256 + c.toNat) * 256 + d.toNat) * 2 ^ 24 + x.toNat :=
  (toNat_append_eq (a ++ b ++ c ++ d) x).trans (by simp only [toNat_append_eq]; rfl)

/-- An OPERAND of the address and the payload of ENCODE, as a number. -/
theorem toNat_append_encode (a b c d e : Byte) (x : BitVec 16) :
    BitVec.toNat (w := 56) (a ++ b ++ c ++ d ++ e ++ x) =
      ((((a.toNat * 256 + b.toNat) * 256 + c.toNat) * 256 + d.toNat) * 256 + e.toNat) * 2 ^ 16 + x.toNat :=
  (toNat_append_eq (a ++ b ++ c ++ d ++ e) x).trans (by simp only [toNat_append_eq]; rfl)

/-- Seven bytes packed in 56 bits, the first in the most significant position, as a number: OPERAND of VALIDATE, and a
packed frame. -/
theorem toNat_append_frame (a b c d e f g : Byte) :
    BitVec.toNat (w := 56) (a ++ b ++ c ++ d ++ e ++ f ++ g) =
      (((((a.toNat * 256 + b.toNat) * 256 + c.toNat) * 256 + d.toNat) * 256 + e.toNat) * 256 + f.toNat) * 256 +
        g.toNat :=
  (toNat_append_eq (a ++ b ++ c ++ d ++ e ++ f) g).trans (by simp only [toNat_append_eq]; rfl)

end Sys2Proof
end

