-- ==== Sys2Proof/Laws/State.lean ====
section
/-! SUPPORT. What each update of the state does to each field, one lemma per field per update. -/

namespace Sys2Proof.Machine

/-! respond -/

@[simp] theorem respond_addr (st : Status) (fl : Bool) (d : FrameWord) (s : State) :
    (respond st fl d s).addr = s.addr := rfl
@[simp] theorem respond_cfgAddr (st : Status) (fl : Bool) (d : FrameWord) (s : State) :
    (respond st fl d s).cfgAddr = s.cfgAddr := rfl
@[simp] theorem respond_cfgDebug (st : Status) (fl : Bool) (d : FrameWord) (s : State) :
    (respond st fl d s).cfgDebug = s.cfgDebug := rfl
@[simp] theorem respond_cfgTimedAbort (st : Status) (fl : Bool) (d : FrameWord) (s : State) :
    (respond st fl d s).cfgTimedAbort = s.cfgTimedAbort := rfl
@[simp] theorem respond_phase (st : Status) (fl : Bool) (d : FrameWord) (s : State) :
    (respond st fl d s).phase = .respond := rfl
@[simp] theorem respond_reqL (st : Status) (fl : Bool) (d : FrameWord) (s : State) :
    (respond st fl d s).reqL = s.reqL := rfl
@[simp] theorem respond_timer (st : Status) (fl : Bool) (d : FrameWord) (s : State) :
    (respond st fl d s).timer = s.timer := rfl
@[simp] theorem respond_statusL (st : Status) (fl : Bool) (d : FrameWord) (s : State) :
    (respond st fl d s).statusL = st := rfl
@[simp] theorem respond_flagL (st : Status) (fl : Bool) (d : FrameWord) (s : State) :
    (respond st fl d s).flagL = fl := rfl
@[simp] theorem respond_dataL (st : Status) (fl : Bool) (d : FrameWord) (s : State) :
    (respond st fl d s).dataL = d := rfl
@[simp] theorem respond_motionErr (st : Status) (fl : Bool) (d : FrameWord) (s : State) :
    (respond st fl d s).motionErr = s.motionErr := rfl
@[simp] theorem respond_draws (st : Status) (fl : Bool) (d : FrameWord) (s : State) :
    (respond st fl d s).draws = s.draws := rfl
@[simp] theorem respond_requests (st : Status) (fl : Bool) (d : FrameWord) (s : State) :
    (respond st fl d s).requests = s.requests := rfl
@[simp] theorem respond_replies (st : Status) (fl : Bool) (d : FrameWord) (s : State) :
    (respond st fl d s).replies = s.replies := rfl
@[simp] theorem respond_schedule (st : Status) (fl : Bool) (d : FrameWord) (s : State) :
    (respond st fl d s).schedule = s.schedule := rfl
@[simp] theorem respond_writes (st : Status) (fl : Bool) (d : FrameWord) (s : State) :
    (respond st fl d s).writes = s.writes := rfl
@[simp] theorem respond_responses (st : Status) (fl : Bool) (d : FrameWord) (s : State) :
    (respond st fl d s).responses = s.responses := rfl
@[simp] theorem respond_line (st : Status) (fl : Bool) (d : FrameWord) (s : State) :
    (respond st fl d s).line = s.line := rfl
@[simp] theorem respond_echoes (st : Status) (fl : Bool) (d : FrameWord) (s : State) :
    (respond st fl d s).echoes = s.echoes := rfl

/-! raise -/

@[simp] theorem raise_addr (f : Failure) (s : State) : (raise f s).addr = s.addr := rfl
@[simp] theorem raise_cfgAddr (f : Failure) (s : State) : (raise f s).cfgAddr = s.cfgAddr := rfl
@[simp] theorem raise_cfgDebug (f : Failure) (s : State) : (raise f s).cfgDebug = s.cfgDebug := rfl
@[simp] theorem raise_cfgTimedAbort (f : Failure) (s : State) : (raise f s).cfgTimedAbort = s.cfgTimedAbort := rfl
@[simp] theorem raise_phase (f : Failure) (s : State) : (raise f s).phase = .respond := rfl
@[simp] theorem raise_reqL (f : Failure) (s : State) : (raise f s).reqL = s.reqL := rfl
@[simp] theorem raise_timer (f : Failure) (s : State) : (raise f s).timer = s.timer := rfl
@[simp] theorem raise_statusL (f : Failure) (s : State) : (raise f s).statusL = failureStatus f := rfl
@[simp] theorem raise_flagL (f : Failure) (s : State) : (raise f s).flagL = false := rfl
@[simp] theorem raise_dataL (f : Failure) (s : State) : (raise f s).dataL = 0 := rfl
@[simp] theorem raise_motionErr (f : Failure) (s : State) : (raise f s).motionErr = s.motionErr := rfl
@[simp] theorem raise_draws (f : Failure) (s : State) : (raise f s).draws = s.draws := rfl
@[simp] theorem raise_requests (f : Failure) (s : State) : (raise f s).requests = s.requests := rfl
@[simp] theorem raise_replies (f : Failure) (s : State) : (raise f s).replies = s.replies := rfl
@[simp] theorem raise_schedule (f : Failure) (s : State) : (raise f s).schedule = s.schedule := rfl
@[simp] theorem raise_writes (f : Failure) (s : State) : (raise f s).writes = s.writes := rfl
@[simp] theorem raise_responses (f : Failure) (s : State) : (raise f s).responses = s.responses := rfl
@[simp] theorem raise_line (f : Failure) (s : State) : (raise f s).line = s.line := rfl
@[simp] theorem raise_echoes (f : Failure) (s : State) : (raise f s).echoes = s.echoes := rfl

/-! takeResponse -/

@[simp] theorem takeResponse_addr (s : State) : (takeResponse s).addr = s.addr := rfl
@[simp] theorem takeResponse_cfgAddr (s : State) : (takeResponse s).cfgAddr = s.cfgAddr := rfl
@[simp] theorem takeResponse_cfgDebug (s : State) : (takeResponse s).cfgDebug = s.cfgDebug := rfl
@[simp] theorem takeResponse_cfgTimedAbort (s : State) : (takeResponse s).cfgTimedAbort = s.cfgTimedAbort := rfl
@[simp] theorem takeResponse_phase (s : State) : (takeResponse s).phase = .idle := rfl
@[simp] theorem takeResponse_reqL (s : State) : (takeResponse s).reqL = s.reqL := rfl
@[simp] theorem takeResponse_timer (s : State) : (takeResponse s).timer = s.timer := rfl
@[simp] theorem takeResponse_statusL (s : State) : (takeResponse s).statusL = s.statusL := rfl
@[simp] theorem takeResponse_flagL (s : State) : (takeResponse s).flagL = s.flagL := rfl
@[simp] theorem takeResponse_dataL (s : State) : (takeResponse s).dataL = s.dataL := rfl
@[simp] theorem takeResponse_motionErr (s : State) : (takeResponse s).motionErr = s.motionErr := rfl
@[simp] theorem takeResponse_draws (s : State) : (takeResponse s).draws = s.draws := rfl
@[simp] theorem takeResponse_requests (s : State) : (takeResponse s).requests = s.requests := rfl
@[simp] theorem takeResponse_replies (s : State) : (takeResponse s).replies = s.replies := rfl
@[simp] theorem takeResponse_schedule (s : State) : (takeResponse s).schedule = s.schedule := rfl
@[simp] theorem takeResponse_writes (s : State) : (takeResponse s).writes = s.writes := rfl
@[simp] theorem takeResponse_responses (s : State) :
    (takeResponse s).responses = s.responses ++ [⟨s.statusL, s.flagL, s.dataL⟩] := rfl
@[simp] theorem takeResponse_line (s : State) : (takeResponse s).line = s.line := rfl
@[simp] theorem takeResponse_echoes (s : State) : (takeResponse s).echoes = s.echoes := rfl

/-! enterIssue1 -/

@[simp] theorem enterIssue1_addr (s : State) : (enterIssue1 s).addr = s.addr := rfl
@[simp] theorem enterIssue1_cfgAddr (s : State) : (enterIssue1 s).cfgAddr = s.cfgAddr := rfl
@[simp] theorem enterIssue1_cfgDebug (s : State) : (enterIssue1 s).cfgDebug = s.cfgDebug := rfl
@[simp] theorem enterIssue1_cfgTimedAbort (s : State) : (enterIssue1 s).cfgTimedAbort = s.cfgTimedAbort := rfl
@[simp] theorem enterIssue1_phase (s : State) : (enterIssue1 s).phase = .issue1 := rfl
@[simp] theorem enterIssue1_reqL (s : State) : (enterIssue1 s).reqL = s.reqL := rfl
@[simp] theorem enterIssue1_timer (s : State) : (enterIssue1 s).timer = s.timer := rfl
@[simp] theorem enterIssue1_statusL (s : State) : (enterIssue1 s).statusL = s.statusL := rfl
@[simp] theorem enterIssue1_flagL (s : State) : (enterIssue1 s).flagL = s.flagL := rfl
@[simp] theorem enterIssue1_dataL (s : State) : (enterIssue1 s).dataL = s.dataL := rfl
@[simp] theorem enterIssue1_motionErr (s : State) : (enterIssue1 s).motionErr = s.motionErr := rfl
@[simp] theorem enterIssue1_draws (s : State) : (enterIssue1 s).draws = s.draws := rfl
@[simp] theorem enterIssue1_requests (s : State) : (enterIssue1 s).requests = s.requests := rfl
@[simp] theorem enterIssue1_replies (s : State) : (enterIssue1 s).replies = s.replies := rfl
@[simp] theorem enterIssue1_schedule (s : State) : (enterIssue1 s).schedule = s.schedule := rfl
@[simp] theorem enterIssue1_writes (s : State) : (enterIssue1 s).writes = s.writes := rfl
@[simp] theorem enterIssue1_responses (s : State) : (enterIssue1 s).responses = s.responses := rfl
@[simp] theorem enterIssue1_line (s : State) : (enterIssue1 s).line = s.line := rfl
@[simp] theorem enterIssue1_echoes (s : State) : (enterIssue1 s).echoes = s.echoes := rfl

/-! enterWait -/

@[simp] theorem enterWait_addr (d : Duration) (b : Bool) (s : State) : (enterWait d b s).addr = s.addr := rfl
@[simp] theorem enterWait_cfgAddr (d : Duration) (b : Bool) (s : State) : (enterWait d b s).cfgAddr = s.cfgAddr := rfl
@[simp] theorem enterWait_cfgDebug (d : Duration) (b : Bool) (s : State) :
    (enterWait d b s).cfgDebug = s.cfgDebug := rfl
@[simp] theorem enterWait_cfgTimedAbort (d : Duration) (b : Bool) (s : State) :
    (enterWait d b s).cfgTimedAbort = s.cfgTimedAbort := rfl
@[simp] theorem enterWait_phase (d : Duration) (b : Bool) (s : State) : (enterWait d b s).phase = .wait := rfl
@[simp] theorem enterWait_reqL (d : Duration) (b : Bool) (s : State) : (enterWait d b s).reqL = s.reqL := rfl
@[simp] theorem enterWait_timer (d : Duration) (b : Bool) (s : State) : (enterWait d b s).timer = d := rfl
@[simp] theorem enterWait_statusL (d : Duration) (b : Bool) (s : State) : (enterWait d b s).statusL = s.statusL := rfl
@[simp] theorem enterWait_flagL (d : Duration) (b : Bool) (s : State) : (enterWait d b s).flagL = s.flagL := rfl
@[simp] theorem enterWait_dataL (d : Duration) (b : Bool) (s : State) : (enterWait d b s).dataL = s.dataL := rfl
@[simp] theorem enterWait_motionErr (d : Duration) (b : Bool) (s : State) : (enterWait d b s).motionErr = b := rfl
@[simp] theorem enterWait_draws (d : Duration) (b : Bool) (s : State) : (enterWait d b s).draws = s.draws := rfl
@[simp] theorem enterWait_requests (d : Duration) (b : Bool) (s : State) :
    (enterWait d b s).requests = s.requests := rfl
@[simp] theorem enterWait_replies (d : Duration) (b : Bool) (s : State) : (enterWait d b s).replies = s.replies := rfl
@[simp] theorem enterWait_schedule (d : Duration) (b : Bool) (s : State) :
    (enterWait d b s).schedule = s.schedule := rfl
@[simp] theorem enterWait_writes (d : Duration) (b : Bool) (s : State) : (enterWait d b s).writes = s.writes := rfl
@[simp] theorem enterWait_responses (d : Duration) (b : Bool) (s : State) :
    (enterWait d b s).responses = s.responses := rfl
@[simp] theorem enterWait_line (d : Duration) (b : Bool) (s : State) : (enterWait d b s).line = s.line := rfl
@[simp] theorem enterWait_echoes (d : Duration) (b : Bool) (s : State) : (enterWait d b s).echoes = s.echoes := rfl

/-! forgetTimer -/

@[simp] theorem forgetTimer_addr (s : State) : (forgetTimer s).addr = s.addr := rfl
@[simp] theorem forgetTimer_cfgAddr (s : State) : (forgetTimer s).cfgAddr = s.cfgAddr := rfl
@[simp] theorem forgetTimer_cfgDebug (s : State) : (forgetTimer s).cfgDebug = s.cfgDebug := rfl
@[simp] theorem forgetTimer_cfgTimedAbort (s : State) : (forgetTimer s).cfgTimedAbort = s.cfgTimedAbort := rfl
@[simp] theorem forgetTimer_phase (s : State) : (forgetTimer s).phase = s.phase := rfl
@[simp] theorem forgetTimer_reqL (s : State) : (forgetTimer s).reqL = s.reqL := rfl
@[simp] theorem forgetTimer_timer (s : State) : (forgetTimer s).timer = Config.freeTimer s.draws := rfl
@[simp] theorem forgetTimer_statusL (s : State) : (forgetTimer s).statusL = s.statusL := rfl
@[simp] theorem forgetTimer_flagL (s : State) : (forgetTimer s).flagL = s.flagL := rfl
@[simp] theorem forgetTimer_dataL (s : State) : (forgetTimer s).dataL = s.dataL := rfl
@[simp] theorem forgetTimer_motionErr (s : State) : (forgetTimer s).motionErr = s.motionErr := rfl
@[simp] theorem forgetTimer_draws (s : State) : (forgetTimer s).draws = s.draws + 1 := rfl
@[simp] theorem forgetTimer_requests (s : State) : (forgetTimer s).requests = s.requests := rfl
@[simp] theorem forgetTimer_replies (s : State) : (forgetTimer s).replies = s.replies := rfl
@[simp] theorem forgetTimer_schedule (s : State) : (forgetTimer s).schedule = s.schedule := rfl
@[simp] theorem forgetTimer_writes (s : State) : (forgetTimer s).writes = s.writes := rfl
@[simp] theorem forgetTimer_responses (s : State) : (forgetTimer s).responses = s.responses := rfl
@[simp] theorem forgetTimer_line (s : State) : (forgetTimer s).line = s.line := rfl
@[simp] theorem forgetTimer_echoes (s : State) : (forgetTimer s).echoes = s.echoes := rfl

/-! setAddr -/

@[simp] theorem setAddr_addr (a : Byte) (s : State) : (setAddr a s).addr = a := rfl
@[simp] theorem setAddr_cfgAddr (a : Byte) (s : State) : (setAddr a s).cfgAddr = s.cfgAddr := rfl
@[simp] theorem setAddr_cfgDebug (a : Byte) (s : State) : (setAddr a s).cfgDebug = s.cfgDebug := rfl
@[simp] theorem setAddr_cfgTimedAbort (a : Byte) (s : State) : (setAddr a s).cfgTimedAbort = s.cfgTimedAbort := rfl
@[simp] theorem setAddr_phase (a : Byte) (s : State) : (setAddr a s).phase = .respond := rfl
@[simp] theorem setAddr_reqL (a : Byte) (s : State) : (setAddr a s).reqL = s.reqL := rfl
@[simp] theorem setAddr_timer (a : Byte) (s : State) : (setAddr a s).timer = s.timer := rfl
@[simp] theorem setAddr_statusL (a : Byte) (s : State) : (setAddr a s).statusL = .ok := rfl
@[simp] theorem setAddr_flagL (a : Byte) (s : State) : (setAddr a s).flagL = false := rfl
@[simp] theorem setAddr_dataL (a : Byte) (s : State) : (setAddr a s).dataL = 0 := rfl
@[simp] theorem setAddr_motionErr (a : Byte) (s : State) : (setAddr a s).motionErr = s.motionErr := rfl
@[simp] theorem setAddr_draws (a : Byte) (s : State) : (setAddr a s).draws = s.draws := rfl
@[simp] theorem setAddr_requests (a : Byte) (s : State) : (setAddr a s).requests = s.requests := rfl
@[simp] theorem setAddr_replies (a : Byte) (s : State) : (setAddr a s).replies = s.replies := rfl
@[simp] theorem setAddr_schedule (a : Byte) (s : State) : (setAddr a s).schedule = s.schedule := rfl
@[simp] theorem setAddr_writes (a : Byte) (s : State) : (setAddr a s).writes = s.writes := rfl
@[simp] theorem setAddr_responses (a : Byte) (s : State) : (setAddr a s).responses = s.responses := rfl
@[simp] theorem setAddr_line (a : Byte) (s : State) : (setAddr a s).line = s.line := rfl
@[simp] theorem setAddr_echoes (a : Byte) (s : State) : (setAddr a s).echoes = s.echoes := rfl

/-! sinkWrite -/

@[simp] theorem sinkWrite_addr (f : Frame) (s : State) : (sinkWrite f s).2.addr = s.addr := rfl
@[simp] theorem sinkWrite_cfgAddr (f : Frame) (s : State) : (sinkWrite f s).2.cfgAddr = s.cfgAddr := rfl
@[simp] theorem sinkWrite_cfgDebug (f : Frame) (s : State) : (sinkWrite f s).2.cfgDebug = s.cfgDebug := rfl
@[simp] theorem sinkWrite_cfgTimedAbort (f : Frame) (s : State) :
    (sinkWrite f s).2.cfgTimedAbort = s.cfgTimedAbort := rfl
@[simp] theorem sinkWrite_phase (f : Frame) (s : State) : (sinkWrite f s).2.phase = s.phase := rfl
@[simp] theorem sinkWrite_reqL (f : Frame) (s : State) : (sinkWrite f s).2.reqL = s.reqL := rfl
@[simp] theorem sinkWrite_timer (f : Frame) (s : State) : (sinkWrite f s).2.timer = s.timer := rfl
@[simp] theorem sinkWrite_statusL (f : Frame) (s : State) : (sinkWrite f s).2.statusL = s.statusL := rfl
@[simp] theorem sinkWrite_flagL (f : Frame) (s : State) : (sinkWrite f s).2.flagL = s.flagL := rfl
@[simp] theorem sinkWrite_dataL (f : Frame) (s : State) : (sinkWrite f s).2.dataL = s.dataL := rfl
@[simp] theorem sinkWrite_motionErr (f : Frame) (s : State) : (sinkWrite f s).2.motionErr = s.motionErr := rfl
@[simp] theorem sinkWrite_draws (f : Frame) (s : State) : (sinkWrite f s).2.draws = s.draws + 1 := rfl
@[simp] theorem sinkWrite_requests (f : Frame) (s : State) : (sinkWrite f s).2.requests = s.requests := rfl
@[simp] theorem sinkWrite_replies (f : Frame) (s : State) : (sinkWrite f s).2.replies = s.replies.tail := rfl
@[simp] theorem sinkWrite_schedule (f : Frame) (s : State) : (sinkWrite f s).2.schedule = s.schedule := rfl
@[simp] theorem sinkWrite_writes (f : Frame) (s : State) :
    (sinkWrite f s).2.writes = s.writes ++ [⟨f, replyAnswer (nextReply s)⟩] := rfl
@[simp] theorem sinkWrite_responses (f : Frame) (s : State) : (sinkWrite f s).2.responses = s.responses := rfl
@[simp] theorem sinkWrite_line (f : Frame) (s : State) :
    (sinkWrite f s).2.line = s.line ++ (frameBytes f).take (replySent (nextReply s)) := rfl
@[simp] theorem sinkWrite_echoes (f : Frame) (s : State) : (sinkWrite f s).2.echoes = s.echoes := rfl

/-! diagEcho -/

@[simp] theorem diagEcho_addr (f : Frame) (s : State) :
    (diagEcho f s).addr = s.addr := by unfold diagEcho; split <;> simp_all
@[simp] theorem diagEcho_cfgAddr (f : Frame) (s : State) :
    (diagEcho f s).cfgAddr = s.cfgAddr := by unfold diagEcho; split <;> simp_all
@[simp] theorem diagEcho_cfgDebug (f : Frame) (s : State) :
    (diagEcho f s).cfgDebug = s.cfgDebug := by unfold diagEcho; split <;> simp_all
@[simp] theorem diagEcho_cfgTimedAbort (f : Frame) (s : State) :
    (diagEcho f s).cfgTimedAbort = s.cfgTimedAbort := by unfold diagEcho; split <;> simp_all
@[simp] theorem diagEcho_phase (f : Frame) (s : State) :
    (diagEcho f s).phase = s.phase := by unfold diagEcho; split <;> simp_all
@[simp] theorem diagEcho_reqL (f : Frame) (s : State) :
    (diagEcho f s).reqL = s.reqL := by unfold diagEcho; split <;> simp_all
@[simp] theorem diagEcho_timer (f : Frame) (s : State) :
    (diagEcho f s).timer = s.timer := by unfold diagEcho; split <;> simp_all
@[simp] theorem diagEcho_statusL (f : Frame) (s : State) :
    (diagEcho f s).statusL = s.statusL := by unfold diagEcho; split <;> simp_all
@[simp] theorem diagEcho_flagL (f : Frame) (s : State) :
    (diagEcho f s).flagL = s.flagL := by unfold diagEcho; split <;> simp_all
@[simp] theorem diagEcho_dataL (f : Frame) (s : State) :
    (diagEcho f s).dataL = s.dataL := by unfold diagEcho; split <;> simp_all
@[simp] theorem diagEcho_motionErr (f : Frame) (s : State) :
    (diagEcho f s).motionErr = s.motionErr := by unfold diagEcho; split <;> simp_all
@[simp] theorem diagEcho_draws (f : Frame) (s : State) :
    (diagEcho f s).draws = s.draws := by unfold diagEcho; split <;> simp_all
@[simp] theorem diagEcho_requests (f : Frame) (s : State) :
    (diagEcho f s).requests = s.requests := by unfold diagEcho; split <;> simp_all
@[simp] theorem diagEcho_replies (f : Frame) (s : State) :
    (diagEcho f s).replies = s.replies := by unfold diagEcho; split <;> simp_all
@[simp] theorem diagEcho_schedule (f : Frame) (s : State) :
    (diagEcho f s).schedule = s.schedule := by unfold diagEcho; split <;> simp_all
@[simp] theorem diagEcho_writes (f : Frame) (s : State) :
    (diagEcho f s).writes = s.writes := by unfold diagEcho; split <;> simp_all
@[simp] theorem diagEcho_responses (f : Frame) (s : State) :
    (diagEcho f s).responses = s.responses := by unfold diagEcho; split <;> simp_all
@[simp] theorem diagEcho_line (f : Frame) (s : State) :
    (diagEcho f s).line = s.line := by unfold diagEcho; split <;> simp_all
@[simp] theorem diagEcho_echoes (f : Frame) (s : State) :
    (diagEcho f s).echoes = if s.cfgDebug then s.echoes ++ [f] else s.echoes := by unfold diagEcho; split <;> simp_all

/-! resetBlock -/

@[simp] theorem resetBlock_addr (a : Byte) (b : Bool) (s : State) : (resetBlock a b s).addr = a := rfl
@[simp] theorem resetBlock_cfgAddr (a : Byte) (b : Bool) (s : State) : (resetBlock a b s).cfgAddr = a := rfl
@[simp] theorem resetBlock_cfgDebug (a : Byte) (b : Bool) (s : State) : (resetBlock a b s).cfgDebug = b := rfl
@[simp] theorem resetBlock_cfgTimedAbort (a : Byte) (b : Bool) (s : State) :
    (resetBlock a b s).cfgTimedAbort = s.cfgTimedAbort := rfl
@[simp] theorem resetBlock_phase (a : Byte) (b : Bool) (s : State) : (resetBlock a b s).phase = .idle := rfl
@[simp] theorem resetBlock_reqL (a : Byte) (b : Bool) (s : State) : (resetBlock a b s).reqL = 0 := rfl
@[simp] theorem resetBlock_timer (a : Byte) (b : Bool) (s : State) : (resetBlock a b s).timer = 0 := rfl
@[simp] theorem resetBlock_statusL (a : Byte) (b : Bool) (s : State) : (resetBlock a b s).statusL = .ok := rfl
@[simp] theorem resetBlock_flagL (a : Byte) (b : Bool) (s : State) : (resetBlock a b s).flagL = false := rfl
@[simp] theorem resetBlock_dataL (a : Byte) (b : Bool) (s : State) : (resetBlock a b s).dataL = 0 := rfl
@[simp] theorem resetBlock_motionErr (a : Byte) (b : Bool) (s : State) : (resetBlock a b s).motionErr = false := rfl
@[simp] theorem resetBlock_draws (a : Byte) (b : Bool) (s : State) : (resetBlock a b s).draws = s.draws := rfl
@[simp] theorem resetBlock_requests (a : Byte) (b : Bool) (s : State) : (resetBlock a b s).requests = s.requests := rfl
@[simp] theorem resetBlock_replies (a : Byte) (b : Bool) (s : State) : (resetBlock a b s).replies = s.replies := rfl
@[simp] theorem resetBlock_schedule (a : Byte) (b : Bool) (s : State) : (resetBlock a b s).schedule = s.schedule := rfl
@[simp] theorem resetBlock_writes (a : Byte) (b : Bool) (s : State) : (resetBlock a b s).writes = s.writes := rfl
@[simp] theorem resetBlock_responses (a : Byte) (b : Bool) (s : State) :
    (resetBlock a b s).responses = s.responses := rfl
@[simp] theorem resetBlock_line (a : Byte) (b : Bool) (s : State) : (resetBlock a b s).line = s.line := rfl
@[simp] theorem resetBlock_echoes (a : Byte) (b : Bool) (s : State) : (resetBlock a b s).echoes = s.echoes := rfl

/-! presentWord -/

@[simp] theorem presentWord_addr (w : ReqWord) (s : State) : (presentWord w s).addr = s.addr := rfl
@[simp] theorem presentWord_cfgAddr (w : ReqWord) (s : State) : (presentWord w s).cfgAddr = s.cfgAddr := rfl
@[simp] theorem presentWord_cfgDebug (w : ReqWord) (s : State) : (presentWord w s).cfgDebug = s.cfgDebug := rfl
@[simp] theorem presentWord_cfgTimedAbort (w : ReqWord) (s : State) :
    (presentWord w s).cfgTimedAbort = s.cfgTimedAbort := rfl
@[simp] theorem presentWord_phase (w : ReqWord) (s : State) : (presentWord w s).phase = .idle := rfl
@[simp] theorem presentWord_reqL (w : ReqWord) (s : State) : (presentWord w s).reqL = s.reqL := rfl
@[simp] theorem presentWord_timer (w : ReqWord) (s : State) : (presentWord w s).timer = s.timer := rfl
@[simp] theorem presentWord_statusL (w : ReqWord) (s : State) : (presentWord w s).statusL = s.statusL := rfl
@[simp] theorem presentWord_flagL (w : ReqWord) (s : State) : (presentWord w s).flagL = s.flagL := rfl
@[simp] theorem presentWord_dataL (w : ReqWord) (s : State) : (presentWord w s).dataL = s.dataL := rfl
@[simp] theorem presentWord_motionErr (w : ReqWord) (s : State) : (presentWord w s).motionErr = s.motionErr := rfl
@[simp] theorem presentWord_draws (w : ReqWord) (s : State) : (presentWord w s).draws = s.draws := rfl
@[simp] theorem presentWord_requests (w : ReqWord) (s : State) : (presentWord w s).requests = w :: s.requests := rfl
@[simp] theorem presentWord_replies (w : ReqWord) (s : State) : (presentWord w s).replies = s.replies := rfl
@[simp] theorem presentWord_schedule (w : ReqWord) (s : State) : (presentWord w s).schedule = [] := rfl
@[simp] theorem presentWord_writes (w : ReqWord) (s : State) : (presentWord w s).writes = s.writes := rfl
@[simp] theorem presentWord_responses (w : ReqWord) (s : State) : (presentWord w s).responses = s.responses := rfl
@[simp] theorem presentWord_line (w : ReqWord) (s : State) : (presentWord w s).line = s.line := rfl
@[simp] theorem presentWord_echoes (w : ReqWord) (s : State) : (presentWord w s).echoes = s.echoes := rfl

end Sys2Proof.Machine
end

