-- ==== Sys2Proof/Laws/Ops.lean ====
section
/-! SUPPORT. What each shared operation can do, said once. -/

namespace Sys2Proof.Machine

/-- The echo is not an input of the sink. -/
@[simp] theorem nextReply_diagEcho (f : Frame) (s : State) : nextReply (diagEcho f s) = nextReply s := by
  unfold nextReply; simp

/-- The next reply depends on the replies placed and the draw counter alone. -/
theorem nextReply_congr {s t : State} (hr : s.replies = t.replies) (hd : s.draws = t.draws) :
    nextReply s = nextReply t := by
  unfold nextReply; rw [hr, hd]

theorem issueFrame_answer (p : Payload) (s : State) :
    (issueFrame p s).1 = replyAnswer (nextReply s) := by
  simp [issueFrame, sinkWrite]

/-- The one write that IssueFrame makes, and its place on the line. -/
theorem issueFrame_state (p : Payload) (s : State) :
    (issueFrame p s).2 =
      { s with
        echoes := if s.cfgDebug then s.echoes ++ [encodeFrame s.addr p] else s.echoes
        writes := s.writes ++ [⟨encodeFrame s.addr p, replyAnswer (nextReply s)⟩]
        line := s.line ++ (frameBytes (encodeFrame s.addr p)).take (replySent (nextReply s))
        replies := s.replies.tail
        draws := s.draws + 1 } := by
  cases s
  simp only [issueFrame, sinkWrite, nextReply_diagEcho]
  simp only [diagEcho]
  split <;> simp_all

/-- Accepting does nothing when no request is presented, and otherwise latches the first word and runs the rest of the
step. -/
theorem accept_cases (k : State → State) (s : State) :
    (s.requests = [] ∧ accept k s = s) ∨
      ∃ w rest, s.requests = w :: rest ∧ accept k s = k { s with requests := rest, reqL := w } := by
  unfold accept
  cases h : s.requests with
  | nil => exact .inl ⟨rfl, rfl⟩
  | cons w rest => exact .inr ⟨w, rest, rfl, rfl⟩

/-- The ISSUE1 step is the one write followed by the response or by WAIT. -/
theorem issueFirst_cases (p : Payload) (dur : Duration) (s : State) :
    (replyAnswer (nextReply s) = .ok ∧ dur = 0 ∧
        issueFirst p dur s = respond .ok false 0 (issueFrame p s).2) ∨
      (replyAnswer (nextReply s) = .ok ∧ dur ≠ 0 ∧
        issueFirst p dur s = enterWait dur false (issueFrame p s).2) ∨
      (replyAnswer (nextReply s) = .err ∧ (dur = 0 ∨ s.cfgTimedAbort = true) ∧
        issueFirst p dur s = raise .sinkIoError (issueFrame p s).2) ∨
      (replyAnswer (nextReply s) = .err ∧ dur ≠ 0 ∧ s.cfgTimedAbort = false ∧
        issueFirst p dur s = enterWait dur true (issueFrame p s).2) := by
  have ha := issueFrame_answer p s
  unfold issueFirst
  rcases hf : issueFrame p s with ⟨a, t⟩
  rw [hf] at ha
  simp only at ha
  subst ha
  cases hr : replyAnswer (nextReply s)
  · by_cases hd : dur = 0
    · exact .inl ⟨rfl, hd, if_pos hd⟩
    · exact .inr (.inl ⟨rfl, hd, if_neg hd⟩)
  · by_cases hd : dur = 0 ∨ s.cfgTimedAbort = true
    · exact .inr (.inr (.inl ⟨rfl, hd, if_pos hd⟩))
    · exact .inr (.inr (.inr ⟨rfl, fun h => hd (.inl h), by simpa using fun h => hd (.inr h), if_neg hd⟩))

/-- The ISSUE2 step is the write of the stop frame followed by the response; TIMER is forgotten. -/
theorem issueStop_cases (s : State) :
    (replyAnswer (nextReply s) = .ok ∧ (s.cfgTimedAbort = true ∨ s.motionErr = false) ∧
        issueStop s = respond .ok false 0 (forgetTimer (issueFrame stopPayload s).2)) ∨
      ((replyAnswer (nextReply s) = .err ∨ (s.cfgTimedAbort = false ∧ s.motionErr = true)) ∧
        issueStop s = raise .sinkIoError (forgetTimer (issueFrame stopPayload s).2)) := by
  have ha := issueFrame_answer stopPayload s
  unfold issueStop
  rcases hf : issueFrame stopPayload s with ⟨a, t⟩
  rw [hf] at ha
  simp only at ha
  subst ha
  cases hr : replyAnswer (nextReply s)
  · cases hc : s.cfgTimedAbort <;> cases hm : s.motionErr <;> simp
  · simp

/-- The WAIT step is one tick, or the step to ISSUE2. -/
theorem waitStep_cases (s : State) :
    (s.timer ≠ 0 ∧ waitStep s = { s with timer := s.timer - 1 }) ∨
      (s.timer = 0 ∧ waitStep s = { s with phase := .issue2 }) := by
  unfold waitStep
  by_cases h : s.timer = 0
  · exact .inr ⟨h, if_pos h⟩
  · exact .inl ⟨h, if_neg h⟩

/-- A timed operation never stops; its step is the one of its phase. -/
theorem timedMotion_cases (p : Payload) (dur : Duration) (s : State) :
    (s.phase = .idle ∧ timedMotion p dur s = .next (accept enterIssue1 s)) ∨
      (s.phase = .issue1 ∧ timedMotion p dur s = .next (issueFirst p dur s)) ∨
      (s.phase = .wait ∧ timedMotion p dur s = .next (waitStep s)) ∨
      (s.phase = .issue2 ∧ timedMotion p dur s = .next (issueStop s)) ∨
      (s.phase = .respond ∧ timedMotion p dur s = .next (takeResponse s)) := by
  unfold timedMotion
  cases h : s.phase <;> simp

/-- An operation without a write does all it does in the accepting step, and has no step in ISSUE1. -/
theorem immediate_cases (effect : State → State) (s : State) :
    (s.phase = .idle ∧ immediate effect s = .next (accept effect s)) ∨
      (s.phase = .issue1 ∧ immediate effect s = .fault .noFirstFrame) ∨
      (s.phase = .wait ∧ immediate effect s = .next (waitStep s)) ∨
      (s.phase = .issue2 ∧ immediate effect s = .next (issueStop s)) ∨
      (s.phase = .respond ∧ immediate effect s = .next (takeResponse s)) := by
  unfold immediate
  cases h : s.phase <;> simp

/-- Only these four waits are for a duty of a party outside. -/
theorem awaitsDuty_iff (s : State) :
    awaitsDuty s = true ↔
      s.phase = .issue1 ∨ (s.phase = .wait ∧ s.timer ≠ 0) ∨ s.phase = .issue2 ∨ s.phase = .respond := by
  unfold awaitsDuty
  cases h : s.phase <;> simp

/-- What a step can be: the party whose turn it is, a hold, a stall, or a reset. A stall is a hang where a duty is awaited,
and the party's step where none is. -/
theorem step_cases (s : State) :
    (s.schedule = [] ∧ step s = runParty s) ∨
      (∃ rest, s.schedule = .proceed :: rest ∧ step s = runParty { s with schedule := rest }) ∨
      (∃ rest, s.schedule = .hold :: rest ∧ step s = .next { s with schedule := rest }) ∨
      (∃ a d c rest, s.schedule = .reset a d c :: rest ∧
        step s = .next (resetEvent a d c { s with schedule := rest })) ∨
      (∃ rest, s.schedule = .stall :: rest ∧
        (awaitsDuty s = true ∧ step s = .next s ∨ awaitsDuty s = false ∧ step s = runParty s)) := by
  unfold step scheduledStep
  rcases h : s.schedule with _ | ⟨m, rest⟩
  · exact .inl ⟨rfl, rfl⟩
  · cases m with
    | proceed => exact .inr (.inl ⟨rest, rfl, rfl⟩)
    | hold => exact .inr (.inr (.inl ⟨rest, rfl, rfl⟩))
    | reset a d c => exact .inr (.inr (.inr (.inl ⟨a, d, c, rest, rfl, rfl⟩)))
    | stall =>
      refine .inr (.inr (.inr (.inr ⟨rest, rfl, ?_⟩)))
      cases hd : awaitsDuty s <;> simp [stalledStep, hd]

/-- What the party whose turn it is does. -/
theorem runParty_cases (s : State) :
    (s.phase = .idle ∧ s.requests = [] ∧ runParty s = .next s) ∨
      (∃ w rest, s.phase = .idle ∧ s.requests = w :: rest ∧ runParty s = exec (decode w) s) ∨
      (s.phase ≠ .idle ∧ runParty s = exec (decode s.reqL) s) := by
  unfold runParty currentWord
  cases h : s.phase <;> simp
  cases hr : s.requests <;> simp

/-- A write cut by a reset touches the line and the diagnostic stream alone. -/
theorem cutWrite_frame (n : Fin 8) (s : State) :
    ∃ l e, cutWrite n s = { s with line := l, echoes := e } := by
  unfold cutWrite
  split
  · exact ⟨s.line, s.echoes, rfl⟩
  · split
    · exact ⟨_, _, rfl⟩
    · exact ⟨s.line, s.echoes, rfl⟩
    · exact ⟨s.line, s.echoes, rfl⟩
  · exact ⟨s.line, s.echoes, rfl⟩
  · split
    · exact ⟨_, _, rfl⟩
    · exact ⟨s.line, s.echoes, rfl⟩
    · exact ⟨s.line, s.echoes, rfl⟩
  · exact ⟨s.line, s.echoes, rfl⟩

end Sys2Proof.Machine
end

