-- ==== Sys2Proof/Laws/Exec.lean ====
section
/-! SUPPORT. The two shapes of an instruction: one that issues a frame and one that responds at once. -/

namespace Sys2Proof.Machine

/-- IssueFrame leaves the state with one write of the encoded frame. -/
theorem issueFrame_wrote (p : Payload) (s : State) :
    (issueFrame p s).2 = s.wrote (encodeFrame s.addr p) := issueFrame_state p s

/-- The ISSUE1 step in the terms of Safety: the write, then WAIT or the response. -/
theorem issueFirst_wroteAndTimed (p : Payload) (dur : Duration) (s : State) :
    issueFirst p dur s = s.wroteAndTimed (encodeFrame s.addr p) dur := by
  unfold State.wroteAndTimed
  rcases issueFirst_cases p dur s with ⟨ha, hd, h⟩ | ⟨ha, hd, h⟩ | ⟨ha, hd, h⟩ | ⟨ha, hd, hc, h⟩
  · rw [h, issueFrame_wrote, if_neg fun c => c.1 hd]
    unfold State.wroteAndResponded
    rw [ha]; rfl
  · rw [h, issueFrame_wrote, if_pos ⟨hd, .inl ha⟩, ha]; rfl
  · have hn : ¬(dur ≠ 0 ∧ (replyAnswer (nextReply s) = .ok ∨ s.cfgTimedAbort = false)) := by
      rintro ⟨h1, h2 | h2⟩ <;> simp_all
    rw [h, issueFrame_wrote, if_neg hn]
    unfold State.wroteAndResponded
    rw [ha]; rfl
  · rw [h, issueFrame_wrote, if_pos ⟨hd, .inr hc⟩, ha]; rfl

/-- An operation with a first frame is a timed motion of its own duration, 0 when it has none. -/
theorem exec_issuesFrame (i : Instr) (h : i.issuesFrame = true) :
    ∃ p, ∀ s, exec i s = timedMotion p i.duration s := by
  cases i with
  | stop => exact ⟨_, fun _ => rfl⟩
  | panRight => exact ⟨_, fun _ => rfl⟩
  | panLeft => exact ⟨_, fun _ => rfl⟩
  | tiltUp => exact ⟨_, fun _ => rfl⟩
  | tiltDown => exact ⟨_, fun _ => rfl⟩
  | zoomIn dur => exact ⟨_, fun _ => rfl⟩
  | zoomOut dur => exact ⟨_, fun _ => rfl⟩
  | setPreset id => exact ⟨_, fun _ => rfl⟩
  | clearPreset id => exact ⟨_, fun _ => rfl⟩
  | gotoPreset id => exact ⟨_, fun _ => rfl⟩
  | panTilt dir dur =>
    cases dir with
    | up => exact ⟨_, fun _ => rfl⟩
    | down => exact ⟨_, fun _ => rfl⟩
    | left => exact ⟨_, fun _ => rfl⟩
    | right => exact ⟨_, fun _ => rfl⟩
    | unknown token => cases h
  | sendCommand plen p =>
    have hp : plen = payloadLen := by simpa [Instr.issuesFrame, payloadLen] using h
    exact ⟨p, fun s => if_pos hp⟩
  | setAddress a => cases h
  | validate f => cases h
  | encode ea p => cases h
  | reservedF => cases h

/-- An operation without a frame responds in its accepting step, and can write ADDR there if it is SET_ADDRESS; FLAG is
VALIDATE's and DATA is ENCODE's, and both are 0 when it reports a failure. -/
theorem exec_noFrame (i : Instr) (h : i.issuesFrame = false) :
    ∃ (status : Status) (flag : Bool) (data : FrameWord) (addr : Option Byte),
      (∀ s, exec i s = immediate (fun u => respond status flag data { u with addr := addr.getD u.addr }) s) ∧
        status ≠ .sinkIoError ∧ (status ≠ .ok → flag = false ∧ data = 0 ∧ addr = none) ∧
        (∀ a, addr = some a → i = .setAddress a) ∧
        (flag = true → ∃ f, i = .validate f) ∧ (data ≠ 0 → ∃ ea p, i = .encode ea p) := by
  cases i with
  | stop => cases h
  | panRight => cases h
  | panLeft => cases h
  | tiltUp => cases h
  | tiltDown => cases h
  | zoomIn dur => cases h
  | zoomOut dur => cases h
  | setPreset id => cases h
  | clearPreset id => cases h
  | gotoPreset id => cases h
  | panTilt dir dur =>
    cases dir with
    | up => cases h
    | down => cases h
    | left => cases h
    | right => cases h
    | unknown token => exact ⟨.ok, false, 0, none, fun _ => rfl, by simp⟩
  | sendCommand plen p =>
    have hp : plen ≠ payloadLen := by simpa [Instr.issuesFrame, payloadLen] using h
    exact ⟨.malformedCommand, false, 0, none, fun s => if_neg hp, by simp⟩
  | setAddress a => exact ⟨.ok, false, 0, some a, fun _ => rfl, by simp⟩
  | validate f => exact ⟨.ok, validateFrame f, 0, none, fun _ => rfl, by simp⟩
  | encode ea p => exact ⟨.ok, false, packFrame (encodeFrame ea p), none, fun _ => rfl, by simp⟩
  | reservedF => exact ⟨.illegalOp, false, 0, none, fun _ => rfl, by simp⟩

/-- Everything that an instruction can do in one step, when it answers a next state. -/
theorem exec_cases {i : Instr} {s t : State} (h : exec i s = .next t) :
    (s.phase = .idle ∧ s.requests = [] ∧ t = s) ∨
      (∃ w rest, s.phase = .idle ∧ s.requests = w :: rest ∧ i.issuesFrame = true ∧ t = s.accepted w rest) ∨
      (∃ w rest status flag data addr, s.phase = .idle ∧ s.requests = w :: rest ∧ i.issuesFrame = false ∧
        t = { s.answered w rest status flag data with addr := Option.getD addr s.addr } ∧
        status ≠ .sinkIoError ∧ (status ≠ .ok → flag = false ∧ data = 0 ∧ addr = none) ∧
        (∀ a, addr = some a → i = .setAddress a) ∧
        (flag = true → ∃ f, i = .validate f) ∧ (data ≠ 0 → ∃ ea p, i = .encode ea p)) ∨
      (∃ p, s.phase = .issue1 ∧ i.issuesFrame = true ∧ t = s.wroteAndTimed (encodeFrame s.addr p) i.duration) ∨
      (s.phase = .wait ∧ t = waitStep s) ∨ (s.phase = .issue2 ∧ t = issueStop s) ∨
      (s.phase = .respond ∧ t = takeResponse s) := by
  cases hi : i.issuesFrame with
  | true =>
    obtain ⟨p, e⟩ := exec_issuesFrame i hi
    rw [e] at h
    rcases timedMotion_cases p i.duration s with ⟨hp, h'⟩ | ⟨hp, h'⟩ | ⟨hp, h'⟩ | ⟨hp, h'⟩ | ⟨hp, h'⟩ <;>
      rw [h'] at h <;> cases h
    · rcases accept_cases enterIssue1 s with ⟨hr, ha⟩ | ⟨w, rest, hr, ha⟩
      · exact .inl ⟨hp, hr, ha⟩
      · exact .inr (.inl ⟨w, rest, hp, hr, rfl, ha⟩)
    · exact .inr (.inr (.inr (.inl ⟨p, hp, rfl, issueFirst_wroteAndTimed p _ s⟩)))
    · exact .inr (.inr (.inr (.inr (.inl ⟨hp, rfl⟩))))
    · exact .inr (.inr (.inr (.inr (.inr (.inl ⟨hp, rfl⟩)))))
    · exact .inr (.inr (.inr (.inr (.inr (.inr ⟨hp, rfl⟩)))))
  | false =>
    obtain ⟨status, flag, data, addr, e, hrest⟩ := exec_noFrame i hi
    rw [e] at h
    rcases immediate_cases _ s with ⟨hp, h'⟩ | ⟨hp, h'⟩ | ⟨hp, h'⟩ | ⟨hp, h'⟩ | ⟨hp, h'⟩ <;>
      rw [h'] at h <;> cases h
    · rcases accept_cases (fun u => respond status flag data { u with addr := addr.getD u.addr }) s with
        ⟨hr, ha⟩ | ⟨w, rest, hr, ha⟩
      · exact .inl ⟨hp, hr, ha⟩
      · exact .inr (.inr (.inl ⟨w, rest, status, flag, data, addr, hp, hr, rfl, ha, hrest⟩))
    · exact .inr (.inr (.inr (.inr (.inl ⟨hp, rfl⟩))))
    · exact .inr (.inr (.inr (.inr (.inr (.inl ⟨hp, rfl⟩)))))
    · exact .inr (.inr (.inr (.inr (.inr (.inr ⟨hp, rfl⟩)))))

/-- An instruction answers a next state unless it has no first frame and the phase is ISSUE1. -/
theorem exec_next (i : Instr) (s : State) (h : s.phase = .issue1 → i.issuesFrame = true) :
    ∃ t, exec i s = .next t := by
  cases hi : i.issuesFrame with
  | true =>
    obtain ⟨p, e⟩ := exec_issuesFrame i hi
    rw [e]
    rcases timedMotion_cases p i.duration s with ⟨_, h'⟩ | ⟨_, h'⟩ | ⟨_, h'⟩ | ⟨_, h'⟩ | ⟨_, h'⟩ <;>
      exact ⟨_, h'⟩
  | false =>
    obtain ⟨_, _, _, _, e, _⟩ := exec_noFrame i hi
    rw [e]
    rcases immediate_cases _ s with ⟨_, h'⟩ | ⟨hp, _⟩ | ⟨_, h'⟩ | ⟨_, h'⟩ | ⟨_, h'⟩
    · exact ⟨_, h'⟩
    · rw [h hp] at hi; cases hi
    · exact ⟨_, h'⟩
    · exact ⟨_, h'⟩
    · exact ⟨_, h'⟩

/-- The ISSUE1 step of an operation with a frame writes that frame, whatever comes of it. -/
theorem wroteAndTimed_writes (s : State) (f : Frame) (dur : Duration) :
    (s.wroteAndTimed f dur).writes = s.writes ++ [⟨f, replyAnswer (nextReply s)⟩] := by
  unfold State.wroteAndTimed
  split <;> rfl

/-- In ISSUE2 every instruction writes the stop frame. -/
theorem exec_issue2 (i : Instr) (s : State) (hp : s.phase = .issue2) : exec i s = .next (issueStop s) := by
  obtain ⟨t, e⟩ := exec_next i s (by simp [hp])
  rcases exec_cases e with ⟨h1, _⟩ | ⟨_, _, h1, _⟩ | ⟨_, _, _, _, _, _, h1, _⟩ | ⟨_, h1, _⟩ | ⟨h1, _⟩ | ⟨_, rfl⟩ |
    ⟨h1, _⟩
  case inr.inr.inr.inr.inr.inl => exact e
  all_goals exact absurd (hp.symm.trans h1) (by decide)

/-- What a cut write leaves outside depends on the phase and the latched word alone: nothing, where the step writes
nothing, or the echo and the first bytes of the frame that the step would write. -/
theorem cutWrite_form (sent : Fin 8) (phase : Phase) (w : ReqWord) :
    (∀ s : State, s.phase = phase → s.reqL = w → cutWrite sent s = s ∧
        ∀ t, (phase = .issue1 ∨ phase = .issue2) → exec (decode w) s ≠ .next t) ∨
      ((phase = .issue1 ∨ phase = .issue2) ∧ ∃ p, ∀ s : State, s.phase = phase → s.reqL = w →
        (cutWrite sent s =
          { s with
            line := s.line ++ (frameBytes (encodeFrame s.addr p)).take sent
            echoes := if s.cfgDebug then s.echoes ++ [encodeFrame s.addr p] else s.echoes }) ∧
        ∀ t, exec (decode w) s = .next t →
          t.writes = s.writes ++ [⟨encodeFrame s.addr p, replyAnswer (nextReply s)⟩]) := by
  cases phase with
  | idle => exact .inl fun s hp _ => ⟨by simp [cutWrite, hp], by simp⟩
  | wait => exact .inl fun s hp _ => ⟨by simp [cutWrite, hp], by simp⟩
  | respond => exact .inl fun s hp _ => ⟨by simp [cutWrite, hp], by simp⟩
  | issue1 =>
    cases hi : (decode w).issuesFrame with
    | true =>
      obtain ⟨p, e⟩ := exec_issuesFrame (decode w) hi
      refine .inr ⟨.inl rfl, p, fun s hp hw => ?_⟩
      subst hw
      have e1 := e { s with replies := [.err sent] }
      have e2 := e s
      simp only [timedMotion, hp, issueFirst_wroteAndTimed] at e1 e2
      refine ⟨?_, fun t ht => ?_⟩
      · simp only [cutWrite, hp, e1, State.wroteAndTimed]
        split <;> simp [State.wroteAndResponded, State.wrote, nextReply, replySent, frameBytes]
      · rw [e2] at ht
        cases ht
        exact wroteAndTimed_writes _ _ _
    | false =>
      obtain ⟨_, _, _, _, e, _⟩ := exec_noFrame (decode w) hi
      refine .inl fun s hp hw => ?_
      subst hw
      have e1 := e { s with replies := [.err sent] }
      have e2 := e s
      simp only [immediate, hp] at e1 e2
      exact ⟨by simp only [cutWrite, hp, e1], fun t _ => by simp [e2]⟩
  | issue2 =>
    refine .inr ⟨.inr rfl, stopPayload, fun s hp hw => ⟨?_, fun t ht => ?_⟩⟩
    · have e1 := exec_issue2 (decode s.reqL) { s with replies := [.err sent] } hp
      simp only [hp] at e1
      simp only [cutWrite, hp, e1]
      rcases issueStop_cases { s with replies := [.err sent] } with ⟨_, _, h⟩ | ⟨_, h⟩ <;>
        simp only [hp] at h <;> simp [h, issueFrame_wrote, State.wrote, nextReply, replySent, frameBytes]
    · rw [exec_issue2 _ s hp] at ht
      cases ht
      rcases issueStop_cases s with ⟨_, _, h⟩ | ⟨_, h⟩ <;> simp [h, issueFrame_wrote, State.wrote]

end Sys2Proof.Machine
end

