-- ==== Sys2Proof/Laws/PerInstr.lean ====
section
/-! SUPPORT. Families of lemmas about instructions as syntax, one lemma per constructor. -/

namespace Sys2Proof.Laws

/-- The encoding of an instruction carries its operation code of R82 in OP. -/
def OpcodeInOp.Statement (i : Instr) : Prop := opField (encode i) = i.opcode

theorem OpcodeInOp.stop : OpcodeInOp.Statement (.stop) := opField_reqWord _ _ _

theorem OpcodeInOp.panRight : OpcodeInOp.Statement (.panRight) := opField_reqWord _ _ _

theorem OpcodeInOp.panLeft : OpcodeInOp.Statement (.panLeft) := opField_reqWord _ _ _

theorem OpcodeInOp.tiltUp : OpcodeInOp.Statement (.tiltUp) := opField_reqWord _ _ _

theorem OpcodeInOp.tiltDown : OpcodeInOp.Statement (.tiltDown) := opField_reqWord _ _ _

theorem OpcodeInOp.zoomIn (dur : Duration) : OpcodeInOp.Statement (.zoomIn dur) := opField_reqWord _ _ _

theorem OpcodeInOp.zoomOut (dur : Duration) : OpcodeInOp.Statement (.zoomOut dur) := opField_reqWord _ _ _

theorem OpcodeInOp.setPreset (id : Byte) : OpcodeInOp.Statement (.setPreset id) := opField_reqWord _ _ _

theorem OpcodeInOp.clearPreset (id : Byte) : OpcodeInOp.Statement (.clearPreset id) := opField_reqWord _ _ _

theorem OpcodeInOp.gotoPreset (id : Byte) : OpcodeInOp.Statement (.gotoPreset id) := opField_reqWord _ _ _

theorem OpcodeInOp.panTilt (dir : Direction) (dur : Duration) : OpcodeInOp.Statement (.panTilt dir dur) := opField_reqWord _ _ _

theorem OpcodeInOp.sendCommand (plen : BitVec 4) (p : Payload) : OpcodeInOp.Statement (.sendCommand plen p) := opField_reqWord _ _ _

theorem OpcodeInOp.setAddress (a : Byte) : OpcodeInOp.Statement (.setAddress a) := opField_reqWord _ _ _

theorem OpcodeInOp.validate (f : Frame) : OpcodeInOp.Statement (.validate f) := opField_reqWord _ _ _

theorem OpcodeInOp.encode (ea : Byte) (p : Payload) : OpcodeInOp.Statement (.encode ea p) := opField_reqWord _ _ _

theorem OpcodeInOp.reservedF : OpcodeInOp.Statement (.reservedF) := opField_reqWord _ _ _

end Sys2Proof.Laws
end

