-- ==== Sys2Proof/Laws/Run.lean ====
section
/-! SUPPORT. Runs of several steps. -/

namespace Sys2Proof.Machine

/-- A run of one step more begins with that step. -/
theorem steps_succ {s t : State} (n : Nat) (h : step s = .next t) : steps (n + 1) s = steps n t := by
  simp only [steps, h]

/-- A run is the host's run of the core. -/
theorem steps_eq_core_run (n : Nat) : ∀ s : State, steps n s = Sys2Proof.core.run n s := by
  induction n with
  | zero => intro s; rfl
  | succ n ih =>
    intro s
    have hc : Sys2Proof.core.step s = step s := rfl
    cases h : step s with
    | next t => rw [h] at hc; simp only [Host.Core.run, hc, steps, h]; exact ih t
    | fault r => rw [h] at hc; simp only [Host.Core.run, hc, steps, h]; rfl
    | refused r => rw [h] at hc; simp only [Host.Core.run, hc, steps, h]; rfl

/-- While an operation is in progress, with nobody holding, the step is that of the latched instruction. -/
theorem step_busy {s : State} (hp : s.phase ≠ .idle) (hs : s.schedule = []) :
    step s = exec (decode s.reqL) s := by
  have hc : currentWord s = some s.reqL := by
    unfold currentWord
    cases h : s.phase with
    | idle => exact absurd h hp
    | issue1 => rfl
    | wait => rfl
    | issue2 => rfl
    | respond => rfl
  simp [step, scheduledStep, hs, runParty, hc]

/-- A hang lasts: while a duty is awaited and nobody does it, no step changes anything (R235). -/
theorem step_stalled {s : State} {rest : List EnvMove} (hs : s.schedule = .stall :: rest) (hd : awaitsDuty s = true) :
    step s = .next s := by
  simp [step, scheduledStep, hs, stalledStep, hd]

/-- Past the holds: when no reset comes and the duties are met, after some steps the enabled party moves, and what is left of the schedule is
shorter by at least the holds it took. -/
theorem steps_past_holds (moves : List EnvMove) : ∀ s : State, s.schedule = moves → s.NoResetAhead → s.DutiesMet →
    ∃ (n : Nat) (rest : List EnvMove), 1 ≤ n ∧ n + rest.length ≤ moves.length + 1 ∧ (∀ m ∈ rest, m ∈ moves) ∧
      ∀ t k, runParty { s with schedule := rest } = .next t → steps (n + k) s = steps k t := by
  induction moves with
  | nil =>
    intro s hs _ _
    refine ⟨1, [], by omega, by simp, by simp, fun t k h => ?_⟩
    have e : { s with schedule := [] } = s := by rw [← hs]
    rw [e] at h
    rw [Nat.add_comm 1 k]
    exact steps_succ k (by simp [step, scheduledStep, hs, h])
  | cons m moves ih =>
    intro s hs hr hd
    cases m with
    | proceed =>
      refine ⟨1, moves, by omega, by simp; omega, fun _ h => List.mem_cons_of_mem _ h, fun t k h => ?_⟩
      rw [Nat.add_comm 1 k]
      exact steps_succ k (by simp [step, scheduledStep, hs, h])
    | hold =>
      have hn : ({ s with schedule := moves } : State).NoResetAhead :=
        fun a d c h => hr a d c (by rw [hs]; exact List.mem_cons_of_mem _ h)
      obtain ⟨n, rest, h1, h2, h3, h4⟩ := ih { s with schedule := moves } rfl hn
        fun h => hd (by rw [hs]; exact List.mem_cons_of_mem _ h)
      refine ⟨n + 1, rest, by omega, by simp; omega, fun _ h => List.mem_cons_of_mem _ (h3 _ h), fun t k h => ?_⟩
      rw [show n + 1 + k = n + k + 1 by omega]
      exact (steps_succ (n + k) (by simp [step, scheduledStep, hs])).trans (h4 t k h)
    | stall => exact absurd (by rw [hs]; exact List.mem_cons_self) hd
    | reset a d c => exact absurd (by rw [hs]; exact List.mem_cons_self) (hr a d c)

end Sys2Proof.Machine
end

