-- ==== Sys2Proof/Tests/Slice0.lean ====
section
/-! SUPPORT. Tests: ill-formed terms, words and steps whose expected values stand in spec/95_test_vectors.md (named in each
section), and for every statement of Obligations.lean with hypotheses a state and operands that meet them. -/

namespace Sys2Proof.Tests

open Sys2Proof Sys2Proof.Machine

/-! ## Small states, and what to look at -/

/-- Part of a next state, none after a fault or a refusal. -/
def look {α : Type} (f : State → α) : StepResult → Option α
  | .next t => some (f t)
  | .fault _ => none
  | .refused _ => none

/-- After reset with the word presented. -/
def idle (w : ReqWord) : State := { State.reset with requests := [w] }

/-- In ISSUE1 with the word latched and the reply placed. -/
def issue1 (w : ReqWord) (r : SinkReply) : State := { State.reset with phase := .issue1, reqL := w, replies := [r] }

/-- In the WAIT of ZOOM_IN 10. -/
def waiting (timer : Duration) : State :=
  { State.reset with phase := .wait, reqL := 0x500000000000000A, timer := timer }

/-- In the ISSUE2 of ZOOM_IN 10. -/
def issue2 (r : SinkReply) : State :=
  { State.reset with phase := .issue2, reqL := 0x500000000000000A, replies := [r] }

/-- In RESPOND after a STOP that the sink failed. -/
def responding : State := { State.reset with phase := .respond, statusL := .sinkIoError }

/-- The frame a step writes with the sink's answer, and the status and phase it leaves. -/
def wrote (t : State) : List SinkWrite × Status × Phase := (t.writes, t.statusL, t.phase)

/-- The response a step latches, as the response word of R87. -/
def latched (t : State) : List SinkWrite × RspWord × Phase :=
  (t.writes, responseWord ⟨t.statusL, t.flagL, t.dataL⟩, t.phase)

/-! ## WellFormed refuses an ill-formed term, one for each check -/

theorem test_illformed_known_token : (Instr.panTilt (.unknown 3) 0).wellFormed = false := by decide

theorem test_illformed_lane0 : (Instr.sendCommand 0 ⟨1, 0, 0, 0⟩).wellFormed = false := by decide

theorem test_illformed_lane1 : (Instr.sendCommand 1 ⟨1, 1, 0, 0⟩).wellFormed = false := by decide

theorem test_illformed_lane2 : (Instr.sendCommand 2 ⟨1, 1, 1, 0⟩).wellFormed = false := by decide

theorem test_illformed_lane3 : (Instr.sendCommand 3 ⟨1, 1, 1, 1⟩).wellFormed = false := by decide

/-! ## Decoding: the words of table V5, and of S4 for the length 5 -/

theorem test_decode_stop : decode 0x0FFFFFFFFFFFFFFF = .stop := by decide

theorem test_decode_panRight : decode 0x1ABCDEF012345678 = .panRight := by decide

theorem test_decode_panLeft : decode 0x2000000000000000 = .panLeft := by decide

theorem test_decode_tiltUp : decode 0x3000000000000000 = .tiltUp := by decide

theorem test_decode_tiltDown : decode 0x4000000000000000 = .tiltDown := by decide

theorem test_decode_zoomIn : decode 0x50000000FFFFFFFF = .zoomIn 4294967295 ∧ decode 0x5000000100000000 = .zoomIn 0 := by
  decide

theorem test_decode_zoomOut : decode 0x60000000000000FA = .zoomOut 250 := by decide

theorem test_decode_setPreset : decode 0x7F0000000000FFC8 = .setPreset 200 := by decide

theorem test_decode_clearPreset : decode 0x8000000000000005 = .clearPreset 5 := by decide

theorem test_decode_gotoPreset : decode 0x9000000000000080 = .gotoPreset 128 := by decide

theorem test_decode_panTilt_known :
    decode 0xA000000000000064 = .panTilt .up 100 ∧ decode 0xA100000000000000 = .panTilt .down 0 ∧
      decode 0xA200000000000000 = .panTilt .left 0 ∧ decode 0xA300000000000000 = .panTilt .right 0 := by decide

theorem test_decode_panTilt_unknown :
    decode 0xA400000000000000 = .panTilt (.unknown 4) 0 ∧
      decode 0xAF000000FFFFFFFF = .panTilt (.unknown 15) 4294967295 := by decide

theorem test_decode_sendCommand :
    decode 0xB4000220000FFFFF = .sendCommand 4 ⟨0x00, 0x02, 0x20, 0x00⟩ ∧
      decode 0xB300022000000000 = .sendCommand 3 ⟨0x00, 0x02, 0x20, 0x00⟩ := by decide

/-- Lanes that a declared length below 4 does not cover are ignored (R84). -/
theorem test_decode_sendCommand_lanes : decode 0xB2123456789ABCDE = .sendCommand 2 ⟨0x12, 0x34, 0x00, 0x00⟩ := by decide

theorem test_decode_setAddress : decode 0xC5123456789ABC02 = .setAddress 0x02 := by decide

theorem test_decode_validate :
    decode 0xD0FF010000000001 = .validate ⟨0xFF, 0x01, 0x00, 0x00, 0x00, 0x00, 0x01⟩ := by decide

theorem test_decode_encode : decode 0xE0010003007FFFFF = .encode 0x01 ⟨0x00, 0x03, 0x00, 0x7F⟩ := by decide

theorem test_decode_reserved : decode 0xFFFFFFFFFFFFFFFF = .reservedF := by decide

/-- The encoder writes the canonical words of table V5 (R93). -/
theorem test_encode_words :
    encode (.zoomOut 250) = 0x60000000000000FA ∧ encode (.panTilt (.unknown 4) 0) = 0xA400000000000000 ∧
      encode (.sendCommand 4 ⟨0x00, 0x02, 0x20, 0x00⟩) = 0xB400022000000000 ∧
      encode (.encode 0x01 ⟨0x00, 0x03, 0x00, 0x7F⟩) = 0xE0010003007F0000 := by decide

theorem test_table_word :
    decodeTableWord 64 0xC000000000000012 = some (.setAddress 0x12) ∧ decodeTableWord 65 0 = none := by decide

/-! ## The codec: tables V1, V3, V4, V6 -/

theorem test_checksum_wraps :
    checksum 0xFF ⟨0xFF, 0xFF, 0xFF, 0xFF⟩ = 0xFB ∧ checksum 0x80 ⟨0x80, 0x00, 0x00, 0x00⟩ = 0x00 := by decide

theorem test_validate_table :
    validateFrame ⟨0xFE, 0x01, 0x00, 0x00, 0x00, 0x00, 0x01⟩ = false ∧
      validateFrame ⟨0x00, 0x00, 0x00, 0x00, 0x00, 0x00, 0x00⟩ = false ∧
      validateFrame ⟨0xFF, 0x01, 0x01, 0x02, 0x00, 0x7F, 0x83⟩ = true := by decide

theorem test_clamp_table :
    clamp (-1) 0 127 = 0 ∧ clamp 128 0 127 = 127 ∧ clamp 256 0 127 = 127 ∧ clampId 127 = 127 ∧ clampId 128 = 127 ∧
      clampId 255 = 127 := by decide

/-! ## One step of each instruction: tables V2, V3, V7 -/

theorem test_stop_err :
    look wrote (exec .stop (issue1 0 (.err 3))) =
      some ([⟨⟨0xFF, 0x01, 0x00, 0x00, 0x00, 0x00, 0x01⟩, .err⟩], .sinkIoError, .respond) := by decide

theorem test_panRight :
    look wrote (exec .panRight { issue1 0 .ok with addr := 0xFF }) =
      some ([⟨⟨0xFF, 0xFF, 0x00, 0x02, 0x20, 0x00, 0x21⟩, .ok⟩], .ok, .respond) := by decide

theorem test_panLeft :
    look wrote (exec .panLeft { issue1 0 .ok with addr := 0x7F }) =
      some ([⟨⟨0xFF, 0x7F, 0x00, 0x04, 0x20, 0x00, 0xA3⟩, .ok⟩], .ok, .respond) := by decide

theorem test_tiltUp :
    look wrote (exec .tiltUp (issue1 0 .ok)) =
      some ([⟨⟨0xFF, 0x01, 0x00, 0x08, 0x00, 0x20, 0x29⟩, .ok⟩], .ok, .respond) := by decide

theorem test_tiltDown :
    look wrote (exec .tiltDown (issue1 0 .ok)) =
      some ([⟨⟨0xFF, 0x01, 0x00, 0x10, 0x00, 0x20, 0x31⟩, .ok⟩], .ok, .respond) := by decide

theorem test_zoomIn_waits :
    look (fun t => (wrote t, t.timer)) (exec (.zoomIn 10) (issue1 0 .ok)) =
      some (([⟨⟨0xFF, 0x01, 0x00, 0x20, 0x00, 0x00, 0x21⟩, .ok⟩], .ok, .wait), 10) := by decide

theorem test_zoomIn_aborts :
    look wrote (exec (.zoomIn 10) (issue1 0 (.err 0))) =
      some ([⟨⟨0xFF, 0x01, 0x00, 0x20, 0x00, 0x00, 0x21⟩, .err⟩], .sinkIoError, .respond) := by decide

theorem test_zoomOut_latching :
    look wrote (exec (.zoomOut 0) (issue1 0 .ok)) =
      some ([⟨⟨0xFF, 0x01, 0x00, 0x40, 0x00, 0x00, 0x41⟩, .ok⟩], .ok, .respond) := by decide

theorem test_setPreset_clamps :
    look wrote (exec (.setPreset 200) (issue1 0 .ok)) =
      some ([⟨⟨0xFF, 0x01, 0x00, 0x03, 0x00, 0x7F, 0x83⟩, .ok⟩], .ok, .respond) := by decide

theorem test_clearPreset :
    look wrote (exec (.clearPreset 5) (issue1 0 .ok)) =
      some ([⟨⟨0xFF, 0x01, 0x00, 0x05, 0x00, 0x05, 0x0B⟩, .ok⟩], .ok, .respond) := by decide

theorem test_gotoPreset :
    look wrote (exec (.gotoPreset 0) (issue1 0 .ok)) =
      some ([⟨⟨0xFF, 0x01, 0x00, 0x07, 0x00, 0x00, 0x08⟩, .ok⟩], .ok, .respond) := by decide

theorem test_panTilt_down :
    look wrote (exec (.panTilt .down 0) (issue1 0 .ok)) =
      some ([⟨⟨0xFF, 0x01, 0x00, 0x10, 0x00, 0x20, 0x31⟩, .ok⟩], .ok, .respond) := by decide

theorem test_panTilt_unknown :
    look latched (exec (.panTilt (.unknown 7) 50) (idle 0xA700000000000032)) = some ([], 0, .respond) := by decide

theorem test_sendCommand :
    look wrote (exec (.sendCommand 4 ⟨0x34, 0x56, 0x78, 0x9A⟩) (issue1 0 .ok)) =
      some ([⟨⟨0xFF, 0x01, 0x34, 0x56, 0x78, 0x9A, 0x9D⟩, .ok⟩], .ok, .respond) := by decide

theorem test_sendCommand_malformed :
    look latched (exec (.sendCommand 5 ⟨0x00, 0x02, 0x20, 0x00⟩) (idle 0xB500022000000000)) =
      some ([], 0x4000000000000000, .respond) := by decide

theorem test_setAddress :
    look (fun t => (t.addr, latched t)) (exec (.setAddress 0x12) (idle 0xC000000000000012)) =
      some (0x12, [], 0, .respond) := by decide

theorem test_validate :
    look latched (step (idle 0xD0FF010000000001)) = some ([], 0x0100000000000000, .respond) := by decide

theorem test_validate_false :
    look latched (step (idle 0xD0FE010000000001)) = some ([], 0, .respond) := by decide

theorem test_encode :
    look latched (step (idle 0xE0FFFFFFFFFF0000)) = some ([], 0x00FFFFFFFFFFFFFB, .respond) := by decide

theorem test_reserved :
    look latched (step (idle 0xF000000000000000)) = some ([], 0xC000000000000000, .respond) := by decide

/-! ## The other steps: table V8, rule R148, program P5, rule R48 -/

theorem test_tick : look (fun t => (t.timer, t.phase)) (step (waiting 2)) = some (1, .wait) := by decide

theorem test_wait_over : look (fun t => (t.timer, t.phase)) (step (waiting 0)) = some (0, .issue2) := by decide

theorem test_stop_frame_err :
    look wrote (step (issue2 (.err 7))) =
      some ([⟨⟨0xFF, 0x01, 0x00, 0x00, 0x00, 0x00, 0x01⟩, .err⟩], .sinkIoError, .respond) := by decide

/-- V7's last line: with TIMED_ABORT_ON_WRITE_FAIL = false the wait and the stop follow a failed motion write, and the
response is SINK_IO_ERROR whatever the second answer. -/
theorem test_other_reading :
    look wrote (exec (.zoomIn 10) { issue1 0 (.err 2) with cfgTimedAbort := false }) =
        some ([⟨⟨0xFF, 0x01, 0x00, 0x20, 0x00, 0x00, 0x21⟩, .err⟩], .ok, .wait) ∧
      look (fun t => t.statusL) (step { issue2 .ok with cfgTimedAbort := false, motionErr := true }) =
        some .sinkIoError := by decide

theorem test_response_taken :
    look (fun t => (t.phase, t.responses)) (step responding) = some (.idle, [⟨.sinkIoError, false, 0⟩]) := by decide

theorem test_partial_transmission :
    look (fun t => t.line) (step (issue1 0x1000000000000000 (.err 3))) = some [0xFF, 0x01, 0x00] := by decide

theorem test_echo :
    look (fun t => t.echoes) (step { issue1 0x1000000000000000 .ok with cfgDebug := true }) =
      some [⟨0xFF, 0x01, 0x00, 0x02, 0x20, 0x00, 0x23⟩] := by decide

theorem test_reset_in_a_run :
    look (fun t => (t.addr, t.phase, t.writes, t.line)) (step
        { waiting 5 with addr := 9, schedule := [.reset 5 false none] }) = some (5, .idle, [], []) := by decide

theorem test_reset_cuts_a_write :
    look (fun t => (t.phase, t.writes, t.line)) (step
        { issue1 0x1000000000000000 .ok with schedule := [.reset 5 false (some 2)] }) =
      some (.idle, [], [0xFF, 0x01]) := by decide

theorem test_hold : step { waiting 2 with schedule := [.hold] } = .next (waiting 2) := by rfl

/-- Rule R235: time that never passes leaves the block in WAIT; the step at TIMER 0 is its own and is taken (R148). -/
theorem test_stall :
    step { waiting 2 with schedule := [.stall] } = .next { waiting 2 with schedule := [.stall] } ∧
      look (fun t => (t.phase, t.schedule)) (step { waiting 0 with schedule := [.stall] }) =
        some (.issue2, [.stall]) := ⟨rfl, by decide⟩

theorem test_first_after_reset :
    look (fun t => (t.phase, t.reqL)) (step (State.reset.withFetchWord 64 0x1000000000000000)) =
      some (.issue1, 0x1000000000000000) := by decide

/-- An operation without a first frame has no ISSUE1 step; no run is ever there (log 15). -/
theorem test_no_first_frame : exec .reservedF (issue1 0 .ok) = .fault .noFirstFrame := by rfl

/-! ## Witnesses: concrete inputs that meet the hypotheses of each statement, clause by clause -/

/-- A valid frame of table V4. -/
def validFrame : Frame := ⟨0xFF, 0x01, 0x00, 0x03, 0x00, 0x7F, 0x83⟩

theorem witness_DecodeOfEncodeIsIdentity :
    (Instr.panTilt (.unknown 4) 7).wellFormed = true ∧ (Instr.panTilt (.unknown 15) 7).wellFormed = true ∧
      (Instr.sendCommand 0 ⟨0, 0, 0, 0⟩).wellFormed = true ∧ (Instr.sendCommand 3 ⟨1, 2, 3, 0⟩).wellFormed = true ∧
      (Instr.sendCommand 5 ⟨1, 2, 3, 4⟩).wellFormed = true ∧ (Instr.validate validFrame).wellFormed = true := by decide

theorem witness_RequestWordLayouts : 4 ≤ (4 : BitVec 4).toNat ∧ 4 ≤ (15 : BitVec 4).toNat := by decide

theorem witness_EncodeIsInjective : encodeFrame 0x01 ⟨0, 3, 0, 127⟩ = encodeFrame 0x01 ⟨0, 3, 0, 127⟩ := rfl

theorem witness_ChecksumIsWrappingSum : [5, 4, 3, 2, 1].Perm [(1 : Byte), 2, 3, 4, 5] := by decide

theorem witness_ValidateAcceptsExactly : validateFrame validFrame = true := by decide

theorem witness_ValidFramesAreTheEncodedOnes : validateFrame validFrame = true := by decide

theorem witness_OneChangedByteInvalidates :
    validateFrame validFrame = true ∧ (0x84 : Byte) ≠ validFrame.checksum ∧ (0x02 : Byte) ≠ validFrame.address ∧
      (0xFF : Byte) ≠ validFrame.cmd1 ∧ (0x04 : Byte) ≠ validFrame.cmd2 ∧ (0x80 : Byte) ≠ validFrame.data1 ∧
      (0x7E : Byte) ≠ validFrame.data2 := by decide

theorem witness_PresetIdentifierClamp :
    (-1 : Int) < 0 ∧ (127 : Int) < 128 ∧ ((0 : Int) ≤ 0 ∧ (0 : Int) ≤ 127) ∧ ((0 : Int) ≤ 127 ∧ (127 : Int) ≤ 127) := by
  decide

theorem witness_StopOperation :
    (0x0FFFFFFFFFFFFFFF : ReqWord).extractLsb' 60 4 = 0x0 ∧ ((idle 0).phase = .idle ∧ (idle 0).requests = [0]) ∧
      (issue1 0 .ok).phase = .issue1 ∧ (waiting 3).phase = .wait ∧ ∃ t, exec .stop (waiting 3) = .next t :=
  ⟨by decide, ⟨rfl, rfl⟩, rfl, rfl, _, rfl⟩

theorem witness_UntimedMotionOperations :
    (0x1ABCDEF012345678 : ReqWord).extractLsb' 60 4 = 0x1 ∧ (0x2000000000000000 : ReqWord).extractLsb' 60 4 = 0x2 ∧
      (0x3000000000000000 : ReqWord).extractLsb' 60 4 = 0x3 ∧ (0x4000000000000000 : ReqWord).extractLsb' 60 4 = 0x4 ∧
      ((idle 0x1000000000000000).phase = .idle ∧ (idle 0x1000000000000000).requests = [0x1000000000000000]) ∧
      (issue1 0x1000000000000000 (.err 7)).phase = .issue1 := by decide

theorem witness_ZoomOperations :
    (0x50000000FFFFFFFF : ReqWord).extractLsb' 60 4 = 0x5 ∧ (0x60000000000000FA : ReqWord).extractLsb' 60 4 = 0x6 ∧
      ((idle 0x5000000000000000).phase = .idle ∧ (idle 0x5000000000000000).requests = [0x5000000000000000]) ∧
      (issue1 0x5000000000000000 .ok).phase = .issue1 := by decide

theorem witness_PanTiltOperation :
    ((idle 0xA700000000000032).phase = .idle ∧ (idle 0xA700000000000032).requests = [0xA700000000000032]) ∧
      (issue1 0xA000000000000064 .ok).phase = .issue1 := by decide

theorem witness_PresetOperations :
    (0x70000000000000C8 : ReqWord).extractLsb' 60 4 = 0x7 ∧ (0x8000000000000005 : ReqWord).extractLsb' 60 4 = 0x8 ∧
      (0x9000000000000080 : ReqWord).extractLsb' 60 4 = 0x9 ∧
      ((idle 0x70000000000000C8).phase = .idle ∧ (idle 0x70000000000000C8).requests = [0x70000000000000C8]) ∧
      ((issue1 0x70000000000000C8 .ok).phase = .issue1 ∧ (0x7F : Byte).toNat = min (127 : Byte).toNat 127 ∧
        (0x7F : Byte).toNat = min (128 : Byte).toNat 127 ∧ (0x00 : Byte).toNat = min (0 : Byte).toNat 127) := by decide

theorem witness_SendCommandOperation :
    ((0xB400022000000000 : ReqWord).extractLsb' 60 4 = 0xB ∧ (0xB400022000000000 : ReqWord).extractLsb' 56 4 = 4) ∧
      (0xBF00000000000000 : ReqWord).extractLsb' 60 4 = 0xB ∧
      ((idle 0xB300022000000000).phase = .idle ∧ (idle 0xB300022000000000).requests = [0xB300022000000000] ∧
        (3 : BitVec 4) ≠ 4 ∧ (5 : BitVec 4) ≠ 4 ∧ (0 : BitVec 4) ≠ 4) ∧
      ((idle 0xB400022000000000).phase = .idle ∧ (idle 0xB400022000000000).requests = [0xB400022000000000]) ∧
      (issue1 0xB400022000000000 .ok).phase = .issue1 := by decide

theorem witness_SetAddressOperation :
    (0xC0000000000000FF : ReqWord).extractLsb' 60 4 = 0xC ∧
      (idle 0xC0000000000000FF).phase = .idle ∧ (idle 0xC0000000000000FF).requests = [0xC0000000000000FF] := by decide

theorem witness_ValidateOperation :
    (0xD0FE010000000001 : ReqWord).extractLsb' 60 4 = 0xD ∧
      (idle 0xD0FE010000000001).phase = .idle ∧ (idle 0xD0FE010000000001).requests = [0xD0FE010000000001] := by decide

theorem witness_EncodeOperation :
    (0xE0FFFFFFFFFF0000 : ReqWord).extractLsb' 60 4 = 0xE ∧
      (idle 0xE0FFFFFFFFFF0000).phase = .idle ∧ (idle 0xE0FFFFFFFFFF0000).requests = [0xE0FFFFFFFFFF0000] := by decide

theorem witness_ReservedOperation :
    (0xFFFFFFFFFFFFFFFF : ReqWord).extractLsb' 60 4 = 0xF ∧
      (idle 0xFFFFFFFFFFFFFFFF).phase = .idle ∧ (idle 0xFFFFFFFFFFFFFFFF).requests = [0xFFFFFFFFFFFFFFFF] := by decide

theorem witness_OperationsWithoutFrameWriteNothing :
    (Instr.sendCommand 5 ⟨0, 2, 32, 0⟩).issuesFrame = false ∧ (idle 0xB500022000000000).phase = .idle ∧
      ∃ t, exec (.sendCommand 5 ⟨0, 2, 32, 0⟩) (idle 0xB500022000000000) = .next t := ⟨rfl, rfl, _, rfl⟩

theorem witness_PresetsAbove127Coincide : 127 ≤ (127 : Byte).toNat ∧ 127 ≤ (255 : Byte).toNat := by decide

theorem witness_AddressChangesTwoFrameBytes :
    Instr.panRight.issuesFrame = true ∧ (issue1 0x1000000000000000 .ok).phase = .issue1 := by decide

theorem witness_AcceptingStep :
    (Instr.sendCommand 4 ⟨0, 2, 32, 0⟩).issuesFrame = true ∧ (idle 0xB400022000000000).phase = .idle ∧
      (idle 0xB400022000000000).requests = [0xB400022000000000] := by decide

theorem witness_WaitStepOfEveryInstruction :
    ((waiting 1).phase = .wait ∧ (waiting 1).timer ≠ 0) ∧ (waiting 0).phase = .wait ∧ (waiting 0).timer = 0 := by decide

theorem witness_StopFrameStepOfEveryInstruction :
    (issue2 .ok).phase = .issue2 ∧ (issue2 .ok).cfgTimedAbort = true := by decide

theorem witness_TakingTheResponse : responding.phase = .respond := rfl

theorem witness_FailureInsideATimedOperation_abort :
    (Instr.zoomIn 10).TimedAs ⟨0x00, 0x20, 0x00, 0x00⟩ 10 ∧
      (issue1 0x500000000000000A (.err 0)).phase = .issue1 ∧
      (issue1 0x500000000000000A (.err 0)).cfgTimedAbort = true ∧
      replyAnswer (nextReply (issue1 0x500000000000000A (.err 0))) = .err := ⟨.zoomIn 10, rfl, rfl, rfl⟩

theorem witness_FailureInsideATimedOperation_stop :
    (issue2 (.err 7)).phase = .issue2 ∧ replyAnswer (nextReply (issue2 (.err 7))) = .err := by decide

theorem witness_FailureInsideATimedOperation_other :
    (Instr.panTilt .up 1).TimedAs ⟨0x00, 0x08, 0x00, 0x20⟩ 1 ∧ (1 : Duration) ≠ 0 ∧
      ({ issue1 0xA000000000000001 (.err 0) with cfgTimedAbort := false } : State).phase = .issue1 ∧
      ({ issue1 0xA000000000000001 (.err 0) with cfgTimedAbort := false } : State).cfgTimedAbort = false ∧
      replyAnswer (nextReply { issue1 0xA000000000000001 (.err 0) with cfgTimedAbort := false }) = .err :=
  ⟨.up 1, by decide, rfl, rfl, rfl⟩

theorem witness_FailureInsideATimedOperation_otherStop :
    ({ issue2 .ok with cfgTimedAbort := false, motionErr := true } : State).phase = .issue2 ∧
      ({ issue2 .ok with cfgTimedAbort := false, motionErr := true } : State).cfgTimedAbort = false := ⟨rfl, rfl⟩

theorem witness_FailureChangesNoArchitecturalState :
    ∃ t, exec (.zoomIn 10) (issue1 0x500000000000000A (.err 0)) = .next t ∧
      (issue1 0x500000000000000A (.err 0)).phase ≠ .respond ∧ t.phase = .respond ∧ t.statusL ≠ .ok :=
  ⟨_, rfl, by decide, rfl, by decide⟩

theorem witness_SinkErrorComesFromAFailedWrite :
    ∃ t, exec .stop (issue1 0 (.err 0)) = .next t ∧ (issue1 0 (.err 0)).cfgTimedAbort = true ∧
      (issue1 0 (.err 0)).phase ≠ .respond ∧ t.phase = .respond := ⟨_, rfl, rfl, by decide, rfl⟩

theorem witness_MalformedAndIllegalHaveOneCause :
    (∃ t, exec (.sendCommand 5 ⟨0, 2, 32, 0⟩) (idle 0xB500022000000000) = .next t ∧
        (idle 0xB500022000000000).phase ≠ .respond ∧ t.phase = .respond ∧ t.statusL = .malformedCommand) ∧
      ∃ t, exec .reservedF (idle 0xF000000000000000) = .next t ∧
        (idle 0xF000000000000000).phase ≠ .respond ∧ t.phase = .respond ∧ t.statusL = .illegalOp :=
  ⟨⟨_, rfl, by decide, rfl, rfl⟩, _, rfl, by decide, rfl, rfl⟩

theorem witness_StepRunsTheDecodedInstruction :
    ((idle 0).phase = .idle ∧ (idle 0).requests = [0] ∧ (idle 0).schedule = []) ∧
      ({ idle 0 with schedule := [.proceed] } : State).schedule = [.proceed] ∧
      ({ idle 0 with schedule := [.stall] } : State).schedule = [.stall] ∧
      ({ waiting 0 with schedule := [.stall, .hold] } : State).schedule = [.stall, .hold] ∧
      ((waiting 0).phase = .wait ∧ (waiting 0).timer = 0) ∧
      ((waiting 2).phase ≠ .idle ∧ (waiting 2).schedule = []) ∧
      ({ waiting 2 with schedule := [.proceed, .hold] } : State).schedule = [.proceed, .hold] := by decide

theorem witness_IdleBlockIsSilent :
    (State.reset.phase = .idle ∧ State.reset.requests = [] ∧ State.reset.schedule = []) ∧
      ({ State.reset with schedule := [.proceed] } : State).schedule = [.proceed] ∧
      ({ State.reset with schedule := [.stall] } : State).schedule = [.stall] := by decide

theorem witness_HoldingChangesNothing :
    ({ waiting 2 with schedule := [.hold] } : State).schedule = [.hold] := rfl

theorem witness_HangsLastUntilReset :
    ({ issue1 0 .ok with schedule := [.stall] } : State).schedule = [.stall] ∧ (issue1 0 .ok).phase = .issue1 ∧
      ({ issue2 .ok with schedule := [.stall] } : State).schedule = [.stall] ∧ (issue2 .ok).phase = .issue2 ∧
      ({ waiting 1 with schedule := [.stall] } : State).schedule = [.stall] ∧
      ((waiting 1).phase = .wait ∧ (waiting 1).timer ≠ 0) ∧
      ({ responding with schedule := [.stall] } : State).schedule = [.stall] ∧ responding.phase = .respond ∧
      ({ waiting 1 with schedule := [.hold, .hold, .reset 5 false none] } : State).schedule =
        List.replicate 2 .hold ++ .reset 5 false none :: [] ∧
      ({ waiting 1 with schedule := [.reset 5 false (some 0)] } : State).schedule =
        List.replicate 0 .hold ++ .reset 5 false (some 0) :: [] := by decide

theorem witness_ResetAbandonsTheOperation :
    (({ waiting 5 with schedule := [.reset 5 false none] } : State).schedule = [.reset 5 false none] ∧
        (waiting 5).phase ≠ .issue1 ∧ (waiting 5).phase ≠ .issue2) ∧
      (issue1 0 .ok).phase = .issue1 ∧
      ∃ u, exec (decode 0) { issue1 0 .ok with schedule := [.reset 5 true (some 7), .hold] } = .next u ∧
        u.writes = [] ++ [⟨⟨0xFF, 0x01, 0x00, 0x00, 0x00, 0x00, 0x01⟩, .ok⟩] :=
  ⟨⟨rfl, by decide, by decide⟩, rfl, _, rfl, rfl⟩

/-- The invariant holds in the WAIT of ZOOM_IN 10 with the most ticks it can have. -/
theorem inv_waiting : (waiting 10).Inv := by
  constructor <;> simp [waiting, State.reset, State.resetWith] <;> decide

theorem inv_idle : (idle 0x500000000000000A).Inv := by
  constructor <;> simp [idle, State.reset, State.resetWith]

theorem inv_issue1 : (issue1 0x500000000000000A .ok).Inv := by
  constructor <;> simp [issue1, State.reset, State.resetWith]
  decide

theorem inv_issue2 : (issue2 .ok).Inv := by
  constructor <;> simp [issue2, State.reset, State.resetWith]
  decide

theorem inv_responding : responding.Inv := by
  constructor <;> simp [responding, State.reset, State.resetWith, Response.Clean]

theorem witness_EveryStepKeepsTheInvariant :
    ((idle 0x500000000000000A).Inv ∧ ∃ t, step (idle 0x500000000000000A) = .next t) ∧
      ((issue1 0x500000000000000A .ok).Inv ∧ ∃ t, step (issue1 0x500000000000000A .ok) = .next t) ∧
      ((waiting 10).Inv ∧ ∃ t, step (waiting 10) = .next t) ∧
      ((issue2 .ok).Inv ∧ ∃ t, step (issue2 .ok) = .next t) ∧ responding.Inv ∧ ∃ t, step responding = .next t :=
  ⟨⟨inv_idle, _, rfl⟩, ⟨inv_issue1, _, rfl⟩, ⟨inv_waiting, _, rfl⟩, ⟨inv_issue2, _, rfl⟩, inv_responding, _, rfl⟩

theorem witness_InvariantStatesNeverStop : (waiting 10).Inv := inv_waiting

/-- Nobody resets the block in the states above. -/
theorem noResetNow_waiting : (waiting 0).NoResetNow := by
  intro a d c rest h
  cases h

theorem witness_PhaseTransitionsAreTheListedOnes :
    (waiting 0).NoResetNow ∧ ∃ t, step (waiting 0) = .next t := ⟨noResetNow_waiting, _, rfl⟩

theorem witness_AddrIsWrittenBySetAddressOnly :
    (idle 0xC000000000000012).NoResetNow ∧
      ∃ t, step (idle 0xC000000000000012) = .next t ∧ t.addr ≠ (idle 0xC000000000000012).addr :=
  ⟨(by intro a d c rest h; cases h), _, rfl, by decide⟩

theorem witness_ConfigurationIsFixed :
    (waiting 0).NoResetNow ∧ ∃ t, step (waiting 0) = .next t := ⟨noResetNow_waiting, _, rfl⟩

theorem witness_EveryWriteIsOneEncodedFrame :
    (issue2 (.err 3)).NoResetNow ∧ ∃ t, step (issue2 (.err 3)) = .next t :=
  ⟨(by intro a d c rest h; cases h), _, rfl⟩

theorem witness_ResponsesAreDeliveredFromRespond : ∃ t, step responding = .next t := ⟨_, rfl⟩

theorem witness_RequestsWaitWhileBusy :
    (waiting 0).phase ≠ .idle ∧ (waiting 0).NoResetNow ∧ ∃ t, step (waiting 0) = .next t :=
  ⟨by decide, noResetNow_waiting, _, rfl⟩

theorem witness_DebugToggleHasNoEffect :
    ∃ t, step { issue1 0x1000000000000000 .ok with cfgDebug := true } = .next t := ⟨_, rfl⟩

theorem witness_ObservationsAreNeverRead :
    ∃ t, step { issue1 0x1000000000000000 .ok with line := [0xFF], responses := [⟨.ok, false, 0⟩] } = .next t :=
  ⟨_, rfl⟩

theorem witness_UnusedLatchesAreNeverRead :
    ∃ t, step { idle 0x1000000000000000 with reqL := 5, timer := 7, motionErr := true } = .next t := ⟨_, rfl⟩

/-- ZOOM_IN 10 presented, its motion write about to fail. -/
def failing : State := { idle 0x500000000000000A with replies := [.err 0] }

theorem witness_TimedMotionContract_failedWrite :
    failing.phase = .idle ∧ failing.NoResetAhead ∧ failing.DutiesMet ∧ failing.requests = [0x500000000000000A] ∧
      (decode 0x500000000000000A).TimedAs ⟨0x00, 0x20, 0x00, 0x00⟩ 10 ∧
      replyAnswer (nextReply failing) = .err ∧ failing.cfgTimedAbort = true := by
  have h : decode 0x500000000000000A = .zoomIn 10 := by decide
  exact ⟨rfl, (by intro a d c h; cases h), (by intro h; cases h), rfl, h ▸ .zoomIn 10, rfl, rfl⟩

/-- ZOOM_IN 0 presented. -/
def latching : State := idle 0x5000000000000000

theorem witness_TimedMotionContract_latching :
    latching.phase = .idle ∧ latching.NoResetAhead ∧ latching.DutiesMet ∧ latching.requests = [0x5000000000000000] ∧
      (decode 0x5000000000000000).TimedAs ⟨0x00, 0x20, 0x00, 0x00⟩ 0 := by
  have h : decode 0x5000000000000000 = .zoomIn 0 := by decide
  exact ⟨rfl, (by intro a d c h; cases h), (by intro h; cases h), rfl, h ▸ .zoomIn 0⟩

/-- PAN_TILT LEFT with the longest wait presented, both writes about to succeed, the host dawdling. -/
def timed : State := { idle 0xA2000000FFFFFFFF with replies := [.ok, .ok], schedule := [.hold, .proceed] }

theorem witness_TimedMotionContract_twoWrites :
    timed.phase = .idle ∧ timed.NoResetAhead ∧ timed.DutiesMet ∧ timed.requests = [0xA2000000FFFFFFFF] ∧
      (decode 0xA2000000FFFFFFFF).TimedAs ⟨0x00, 0x04, 0x20, 0x00⟩ 4294967295 ∧ (4294967295 : Duration) ≠ 0 ∧
      replyAnswer (nextReply timed) = .ok := by
  have h : decode 0xA2000000FFFFFFFF = .panTilt .left 4294967295 := by decide
  exact ⟨rfl, (by intro a d c h; simp [timed] at h), (by intro h; simp [timed] at h), rfl, h ▸ .left 4294967295,
    by decide, rfl⟩

/-- ZOOM_IN 10 presented under the other reading of R147, its motion write about to fail. -/
def failingOther : State := { failing with cfgTimedAbort := false }

theorem witness_TimedMotionContract_otherReading :
    failingOther.phase = .idle ∧ failingOther.NoResetAhead ∧ failingOther.DutiesMet ∧
      failingOther.requests = [0x500000000000000A] ∧ (decode 0x500000000000000A).TimedAs ⟨0x00, 0x20, 0x00, 0x00⟩ 10 ∧
      (10 : Duration) ≠ 0 ∧ failingOther.cfgTimedAbort = false := by
  have h : decode 0x500000000000000A = .zoomIn 10 := by decide
  exact ⟨rfl, (by intro a d c h; cases h), (by intro h; cases h), rfl, h ▸ .zoomIn 10, by decide, rfl⟩

/-- The WAIT of ZOOM_IN 10 with 3 ticks to go, where somebody holds first and a reset comes after the wait's three steps. -/
def held : State := { waiting 3 with schedule := [.hold, .proceed, .proceed, .reset 5 false none] }

theorem witness_WaitIsALowerBound :
    ∃ t, held.phase = .wait ∧ held.NoResetWithin 3 ∧ 3 ≤ held.timer.toNat ∧ steps 3 held = .next t :=
  ⟨_, rfl, (by intro a d c h; simp [held] at h), by decide, rfl⟩

theorem witness_EveryOperationEnds :
    (waiting 10).Inv ∧ (waiting 10).NoResetAhead ∧ (waiting 10).DutiesMet ∧ (waiting 10).phase ≠ .idle :=
  ⟨inv_waiting, (by intro a d c h; cases h), (by intro h; cases h), by decide⟩

end Sys2Proof.Tests
end

section
/-! PROOFS. The request word read back: the decoder's equation for each operation, and each field of R81 and R85 out of a
word put together from fields (spec/30_encoding.md R81 to R85). -/

namespace Sys2Proof

/-! ## The decoder, one equation per operation of R82 -/

theorem decode_eq_stop {w : ReqWord} (h : opField w = 0x0) : decode w = .stop := by
  simp [decode, h]

theorem decode_eq_panRight {w : ReqWord} (h : opField w = 0x1) : decode w = .panRight := by
  simp [decode, h]

theorem decode_eq_panLeft {w : ReqWord} (h : opField w = 0x2) : decode w = .panLeft := by
  simp [decode, h]

theorem decode_eq_tiltUp {w : ReqWord} (h : opField w = 0x3) : decode w = .tiltUp := by
  simp [decode, h]

theorem decode_eq_tiltDown {w : ReqWord} (h : opField w = 0x4) : decode w = .tiltDown := by
  simp [decode, h]

theorem decode_eq_zoomIn {w : ReqWord} (h : opField w = 0x5) : decode w = .zoomIn (durField w) := by
  simp [decode, h]

theorem decode_eq_zoomOut {w : ReqWord} (h : opField w = 0x6) : decode w = .zoomOut (durField w) := by
  simp [decode, h]

theorem decode_eq_setPreset {w : ReqWord} (h : opField w = 0x7) : decode w = .setPreset (operandByte w 6) := by
  simp [decode, h]

theorem decode_eq_clearPreset {w : ReqWord} (h : opField w = 0x8) : decode w = .clearPreset (operandByte w 6) := by
  simp [decode, h]

theorem decode_eq_gotoPreset {w : ReqWord} (h : opField w = 0x9) : decode w = .gotoPreset (operandByte w 6) := by
  simp [decode, h]

theorem decode_eq_panTilt {w : ReqWord} (h : opField w = 0xA) :
    decode w = .panTilt (directionOf (auxField w)) (durField w) := by
  simp [decode, h]

theorem decode_eq_sendCommand {w : ReqWord} (h : opField w = 0xB) :
    decode w = .sendCommand (auxField w)
      ⟨laneOf (auxField w) 0 (operandByte w 0), laneOf (auxField w) 1 (operandByte w 1),
        laneOf (auxField w) 2 (operandByte w 2), laneOf (auxField w) 3 (operandByte w 3)⟩ := by
  simp [decode, h]

theorem decode_eq_setAddress {w : ReqWord} (h : opField w = 0xC) : decode w = .setAddress (operandByte w 6) := by
  simp [decode, h]

theorem decode_eq_validate {w : ReqWord} (h : opField w = 0xD) :
    decode w = .validate ⟨operandByte w 0, operandByte w 1, operandByte w 2, operandByte w 3, operandByte w 4,
      operandByte w 5, operandByte w 6⟩ := by
  simp [decode, h]

theorem decode_eq_encode {w : ReqWord} (h : opField w = 0xE) :
    decode w =
      .encode (operandByte w 0) ⟨operandByte w 1, operandByte w 2, operandByte w 3, operandByte w 4⟩ := by
  simp [decode, h]

theorem decode_eq_reservedF {w : ReqWord} (h : opField w = 0xF) : decode w = .reservedF := by
  simp [decode, h]

/-! ## Tokens and lanes -/

/-- Every token past the four known ones is unknown and keeps its number (R83, R90). -/
theorem directionOf_unknown {token : BitVec 4} (h : 4 ≤ token.toNat) : directionOf token = .unknown token := by
  unfold directionOf
  split
  case h_5 => rfl
  all_goals omega

/-- A lane that the declared length covers is part of the payload (R84). -/
theorem laneOf_covered {plen : BitVec 4} {k : Nat} (h : k < plen.toNat) (b : Byte) : laneOf plen k b = b :=
  if_pos h

/-! ## The fields of a word made of its three fields -/

/-- A word is its three fields, one after another (R81). -/
theorem eq_reqWord_fields (w : ReqWord) : w = reqWord (opField w) (auxField w) (w.extractLsb' 0 56) := by
  apply BitVec.eq_of_toNat_eq
  rw [reqWord_toNat, opField_toNat, auxField_toNat, toNat_extract]
  omega

/-- A byte of OPERAND is cut from OPERAND alone: OP and AUX stand above it. -/
theorem operandByte_reqWord (op aux : BitVec 4) (x : BitVec 56) (k : Nat) :
    operandByte (reqWord op aux x) k = x.extractLsb' (48 - 8 * k) 8 :=
  BitVec.extractLsb'_append_eq_of_add_le (by omega)

theorem durField_reqWord_append (op aux : BitVec 4) (x : BitVec 24) (dur : Duration) :
    durField (reqWord op aux (x ++ dur)) = dur := by
  apply BitVec.eq_of_toNat_eq
  rw [durField_reqWord, toNat_append_dur]
  omega

theorem operandByte_reqWord_append (op aux : BitVec 4) (x : BitVec 48) (b : Byte) :
    operandByte (reqWord op aux (x ++ b)) 6 = b := by
  rw [operandByte_reqWord]
  exact BitVec.extractLsb'_append_eq_right

/-- The four payload lanes of SEND_COMMAND, first byte most significant (R84, R85). -/
theorem operandByte_reqWord_payload (op aux : BitVec 4) (p0 p1 p2 p3 : Byte) (x : BitVec 24) :
    operandByte (reqWord op aux (p0 ++ p1 ++ p2 ++ p3 ++ x)) 0 = p0 ∧
    operandByte (reqWord op aux (p0 ++ p1 ++ p2 ++ p3 ++ x)) 1 = p1 ∧
    operandByte (reqWord op aux (p0 ++ p1 ++ p2 ++ p3 ++ x)) 2 = p2 ∧
    operandByte (reqWord op aux (p0 ++ p1 ++ p2 ++ p3 ++ x)) 3 = p3 := by
  simp only [← BitVec.toNat_inj, operandByte_reqWord, toNat_extract, toNat_append_payload]
  omega

/-- The seven frame bytes of VALIDATE, first byte most significant (R85). -/
theorem operandByte_reqWord_frame (op aux : BitVec 4) (f0 f1 f2 f3 f4 f5 f6 : Byte) :
    operandByte (reqWord op aux (f0 ++ f1 ++ f2 ++ f3 ++ f4 ++ f5 ++ f6)) 0 = f0 ∧
    operandByte (reqWord op aux (f0 ++ f1 ++ f2 ++ f3 ++ f4 ++ f5 ++ f6)) 1 = f1 ∧
    operandByte (reqWord op aux (f0 ++ f1 ++ f2 ++ f3 ++ f4 ++ f5 ++ f6)) 2 = f2 ∧
    operandByte (reqWord op aux (f0 ++ f1 ++ f2 ++ f3 ++ f4 ++ f5 ++ f6)) 3 = f3 ∧
    operandByte (reqWord op aux (f0 ++ f1 ++ f2 ++ f3 ++ f4 ++ f5 ++ f6)) 4 = f4 ∧
    operandByte (reqWord op aux (f0 ++ f1 ++ f2 ++ f3 ++ f4 ++ f5 ++ f6)) 5 = f5 ∧
    operandByte (reqWord op aux (f0 ++ f1 ++ f2 ++ f3 ++ f4 ++ f5 ++ f6)) 6 = f6 := by
  simp only [← BitVec.toNat_inj, operandByte_reqWord, toNat_extract, toNat_append_frame]
  omega

/-- The address and the four payload bytes of ENCODE, first byte most significant (R85). -/
theorem operandByte_reqWord_encode (op aux : BitVec 4) (ea e0 e1 e2 e3 : Byte) (x : BitVec 16) :
    operandByte (reqWord op aux (ea ++ e0 ++ e1 ++ e2 ++ e3 ++ x)) 0 = ea ∧
    operandByte (reqWord op aux (ea ++ e0 ++ e1 ++ e2 ++ e3 ++ x)) 1 = e0 ∧
    operandByte (reqWord op aux (ea ++ e0 ++ e1 ++ e2 ++ e3 ++ x)) 2 = e1 ∧
    operandByte (reqWord op aux (ea ++ e0 ++ e1 ++ e2 ++ e3 ++ x)) 3 = e2 ∧
    operandByte (reqWord op aux (ea ++ e0 ++ e1 ++ e2 ++ e3 ++ x)) 4 = e3 := by
  simp only [← BitVec.toNat_inj, operandByte_reqWord, toNat_extract, toNat_append_encode]
  omega

/-! ## Each operation with operands, out of a word that packs them -/

theorem decode_reqWord_panTilt (token : BitVec 4) (x : BitVec 24) (dur : Duration) :
    decode (reqWord 0xA token (x ++ dur)) = .panTilt (directionOf token) dur := by
  rw [decode_eq_panTilt (opField_reqWord _ _ _), auxField_reqWord, durField_reqWord_append]

/-- At the one accepted length every lane is part of the payload (R84). -/
theorem decode_reqWord_sendCommand (p0 p1 p2 p3 : Byte) (x : BitVec 24) :
    decode (reqWord 0xB 4 (p0 ++ p1 ++ p2 ++ p3 ++ x)) = .sendCommand 4 ⟨p0, p1, p2, p3⟩ := by
  obtain ⟨h0, h1, h2, h3⟩ := operandByte_reqWord_payload 0xB 4 p0 p1 p2 p3 x
  rw [decode_eq_sendCommand (opField_reqWord _ _ _), auxField_reqWord, h0, h1, h2, h3,
    laneOf_covered (by decide), laneOf_covered (by decide), laneOf_covered (by decide), laneOf_covered (by decide)]

theorem decode_reqWord_validate (aux : BitVec 4) (f0 f1 f2 f3 f4 f5 f6 : Byte) :
    decode (reqWord 0xD aux (f0 ++ f1 ++ f2 ++ f3 ++ f4 ++ f5 ++ f6)) = .validate ⟨f0, f1, f2, f3, f4, f5, f6⟩ := by
  obtain ⟨h0, h1, h2, h3, h4, h5, h6⟩ := operandByte_reqWord_frame 0xD aux f0 f1 f2 f3 f4 f5 f6
  rw [decode_eq_validate (opField_reqWord _ _ _), h0, h1, h2, h3, h4, h5, h6]

theorem decode_reqWord_encode (aux : BitVec 4) (ea e0 e1 e2 e3 : Byte) (x : BitVec 16) :
    decode (reqWord 0xE aux (ea ++ e0 ++ e1 ++ e2 ++ e3 ++ x)) = .encode ea ⟨e0, e1, e2, e3⟩ := by
  obtain ⟨h0, h1, h2, h3, h4⟩ := operandByte_reqWord_encode 0xE aux ea e0 e1 e2 e3 x
  rw [decode_eq_encode (opField_reqWord _ _ _), h0, h1, h2, h3, h4]

/-- Settles O3: OP selects the decoder's equation, and each operand is read back from the place the layout gives it. -/
theorem requestWordLayouts : Obligations.RequestWordLayouts :=
  ⟨fun w => ⟨_, _, _, eq_reqWord_fields w⟩,
    fun _ _ => decode_eq_stop (opField_reqWord _ _ _),
    fun _ _ => decode_eq_panRight (opField_reqWord _ _ _),
    fun _ _ => decode_eq_panLeft (opField_reqWord _ _ _),
    fun _ _ => decode_eq_tiltUp (opField_reqWord _ _ _),
    fun _ _ => decode_eq_tiltDown (opField_reqWord _ _ _),
    fun _ _ _ => by rw [decode_eq_zoomIn (opField_reqWord _ _ _), durField_reqWord_append],
    fun _ _ _ => by rw [decode_eq_zoomOut (opField_reqWord _ _ _), durField_reqWord_append],
    fun _ _ _ => by rw [decode_eq_setPreset (opField_reqWord _ _ _), operandByte_reqWord_append],
    fun _ _ _ => by rw [decode_eq_clearPreset (opField_reqWord _ _ _), operandByte_reqWord_append],
    fun _ _ _ => by rw [decode_eq_gotoPreset (opField_reqWord _ _ _), operandByte_reqWord_append],
    fun x dur => decode_reqWord_panTilt 0 x dur,
    fun x dur => decode_reqWord_panTilt 1 x dur,
    fun x dur => decode_reqWord_panTilt 2 x dur,
    fun x dur => decode_reqWord_panTilt 3 x dur,
    fun token x dur h => by rw [decode_reqWord_panTilt, directionOf_unknown h],
    decode_reqWord_sendCommand,
    fun _ _ => ⟨_, by rw [decode_eq_sendCommand (opField_reqWord _ _ _), auxField_reqWord]⟩,
    fun _ _ _ => by rw [decode_eq_setAddress (opField_reqWord _ _ _), operandByte_reqWord_append],
    decode_reqWord_validate,
    decode_reqWord_encode,
    fun _ _ => decode_eq_reservedF (opField_reqWord _ _ _)⟩

end Sys2Proof
end

section
/-! PROOFS. The seven bytes of an encoded frame (spec/40_framecodec.md R110). -/

namespace Sys2Proof.Machine

/-- The checksum byte as a number is the integer sum reduced modulo 256: taking 8 bits loses nothing more (R74, R112). -/
theorem checksum_toNat (a : Byte) (p : Payload) :
    (checksum a p).toNat = (a.toNat + p.cmd1.toNat + p.cmd2.toNat + p.data1.toNat + p.data2.toNat) % 256 := by
  simp [checksum]

/-- Settles O6: six bytes stand as given and the seventh is the checksum. -/
theorem encodedFrameBytes : Obligations.EncodedFrameBytes :=
  fun a p => ⟨rfl, rfl, rfl, rfl, rfl, rfl, checksum_toNat a p⟩

end Sys2Proof.Machine
end

section
/-! PROOFS. The accepting step of an operation without a frame, and the reserved operation (spec/30_encoding.md R89). -/

namespace Sys2Proof.Machine

/-- Accepting a presented word latches it and runs the rest of the step (R95). -/
theorem accept_presented {s : State} {w : ReqWord} {rest : List ReqWord} (hr : s.requests = w :: rest)
    (k : State → State) : accept k s = k { s with requests := rest, reqL := w } := by
  simp [accept, hr]

/-- An operation without a write has its whole effect in the step that accepts its word (R95). -/
theorem immediate_presented {s : State} {w : ReqWord} {rest : List ReqWord} (hp : s.phase = .idle)
    (hr : s.requests = w :: rest) (effect : State → State) :
    immediate effect s = .next (effect { s with requests := rest, reqL := w }) := by
  simp [immediate, hp, accept_presented hr]

/-- Raising a failure in the accepting step answers with its status, FLAG 0 and DATA 0, and does nothing else (R185). -/
theorem immediate_raise {s : State} {w : ReqWord} {rest : List ReqWord} (hp : s.phase = .idle)
    (hr : s.requests = w :: rest) (f : Failure) :
    immediate (raise f) s = .next (s.answered w rest (failureStatus f) false 0) :=
  immediate_presented hp hr (raise f)

/-- Settles O22: OP 0xF selects the reserved operation, whose accepting step raises ILLEGAL_OP. -/
theorem reservedOperation : Obligations.ReservedOperation :=
  ⟨fun _ h => decode_eq_reservedF h, fun _ _ _ hp hr => immediate_raise hp hr .illegalOp, rfl⟩

end Sys2Proof.Machine
end

section
/-! PROOFS. FrameCodec: the checksum as 8-bit addition, what Validate accepts, and how a change of a valid frame's bytes
decides its validity (spec/40_framecodec.md R111 to R115). -/

namespace Sys2Proof.Machine

/-! ## The checksum -/

/-- Reducing the integer sum modulo 256 once is adding in 8 bits with every carry discarded (R112). -/
theorem checksum_eq_add (a : Byte) (p : Payload) : checksum a p = a + p.cmd1 + p.cmd2 + p.data1 + p.data2 := by
  apply BitVec.eq_of_toNat_eq
  rw [checksum_toNat]
  simp only [BitVec.toNat_add]
  omega

/-- The five bytes may be added in any order, 8-bit addition being associative and commutative (R112). -/
theorem checksum_eq_foldl_of_perm {a b c d e : Byte} {l : List Byte} (h : l.Perm [a, b, c, d, e]) :
    checksum a ⟨b, c, d, e⟩ = l.foldl (· + ·) 0 := by
  rw [h.foldl_eq, checksum_eq_add]
  simp

/-- Settles O8: the 8-bit sum, its independence of the order, and the corner cases by evaluation. -/
theorem checksumIsWrappingSum : Obligations.ChecksumIsWrappingSum :=
  ⟨checksum_eq_add, fun _ _ _ _ _ _ h => checksum_eq_foldl_of_perm h, by decide, by decide, by decide, by decide⟩

/-! ## Encode -/

/-- Encode keeps its arguments in the frame: the payload is read back from bytes 2 to 5 (R73). -/
@[simp] theorem framePayload_encodeFrame (a : Byte) (p : Payload) : framePayload (encodeFrame a p) = p := rfl

/-- Settles O7: the address and the payload are read back from the frame, so equal frames have equal ones. -/
theorem encodeIsInjective : Obligations.EncodeIsInjective :=
  ⟨fun a _ p _ h =>
      ⟨congrArg Frame.address h, by rw [← framePayload_encodeFrame a p, h, framePayload_encodeFrame]⟩,
    fun _ _ => ⟨rfl, rfl, rfl⟩⟩

/-! ## Validate -/

/-- Validate asks for the sync byte and for the checksum of bytes 1 to 5, and for nothing else (R113). -/
theorem validateFrame_iff (f : Frame) :
    validateFrame f = true ↔ f.sync = 0xFF ∧ f.checksum = checksum f.address (framePayload f) := by
  simp [validateFrame]

/-- Validate in 8-bit addition (R112, R113). -/
theorem validateFrame_iff_add (f : Frame) :
    validateFrame f = true ↔
      f.sync = 0xFF ∧ f.checksum = f.address + f.cmd1 + f.cmd2 + f.data1 + f.data2 := by
  rw [validateFrame_iff, checksum_eq_add, framePayload]

/-- Settles O9: two checksum bytes are equal exactly when they are equal as numbers. -/
theorem validateAcceptsExactly : Obligations.ValidateAcceptsExactly := by
  intro f
  rw [validateFrame_iff, ← BitVec.toNat_inj (x := f.checksum), checksum_toNat, framePayload]

theorem validateFrame_encodeFrame (a : Byte) (p : Payload) : validateFrame (encodeFrame a p) = true :=
  (validateFrame_iff _).2 ⟨rfl, rfl⟩

/-- A valid frame has the two bytes that Encode computes, so Encode gives it back from the other five (R114). -/
theorem eq_encodeFrame_of_valid {f : Frame} (hf : validateFrame f = true) :
    f = encodeFrame f.address (framePayload f) := by
  obtain ⟨hsync, hsum⟩ := (validateFrame_iff f).1 hf
  rw [encodeFrame, ← hsum, ← hsync]
  rfl

/-- Settles O10: both directions of R114. -/
theorem validFramesAreTheEncodedOnes : Obligations.ValidFramesAreTheEncodedOnes :=
  ⟨validateFrame_encodeFrame, fun _ hf => eq_encodeFrame_of_valid hf⟩

/-- A frame with the sync byte of a valid one is valid itself exactly when its checksum byte has moved from the valid
one's by the sum of the changes of bytes 1 to 5. -/
theorem validateFrame_iff_changes {f : Frame} (hf : validateFrame f = true) {g : Frame} (hg : g.sync = f.sync) :
    validateFrame g = true ↔
      g.checksum = f.checksum +
        ((g.address - f.address) + (g.cmd1 - f.cmd1) + (g.cmd2 - f.cmd2) + (g.data1 - f.data1) +
          (g.data2 - f.data2)) := by
  obtain ⟨hsync, hsum⟩ := (validateFrame_iff_add f).1 hf
  have regroup : g.address + g.cmd1 + g.cmd2 + g.data1 + g.data2 = f.checksum +
      ((g.address - f.address) + (g.cmd1 - f.cmd1) + (g.cmd2 - f.cmd2) + (g.data1 - f.data1) +
        (g.data2 - f.data2)) := by
    rw [hsum]
    ring
  rw [validateFrame_iff_add, regroup, hg, and_iff_right hsync]

/-- Settles O11: one changed byte leaves one change that is not 0, and the changes 1 and -1 cancel. -/
theorem oneChangedByteInvalidates : Obligations.OneChangedByteInvalidates := by
  refine ⟨fun f b hf => ⟨?checksum, ?address, ?cmd1, ?cmd2, ?data1, ?data2⟩, fun f hf => ?two⟩
  case two =>
    rw [validateFrame_iff_changes hf]
    · ring
    · rfl
  all_goals
    intro hb
    rw [Bool.eq_false_iff, ne_eq, validateFrame_iff_changes hf]
    · simpa only [sub_self, add_zero, zero_add, left_eq_add, sub_eq_zero] using hb
    · rfl

end Sys2Proof.Machine
end

section
/-! PROOFS. VALIDATE and ENCODE on the request port (spec/40_framecodec.md R117, R118). -/

namespace Sys2Proof.Machine

/-- An operation that does nothing but respond answers in the step that accepts its word (R95). -/
theorem immediate_respond {s : State} {w : ReqWord} {rest : List ReqWord} (hp : s.phase = .idle)
    (hr : s.requests = w :: rest) (status : Status) (flag : Bool) (data : FrameWord) :
    immediate (respond status flag data) s = .next (s.answered w rest status flag data) :=
  immediate_presented hp hr (respond status flag data)

/-- FLAG of VALIDATE by the bytes of the frame (R113, R117). -/
theorem validateFrame_eq_decide (f : Frame) :
    validateFrame f =
      decide (f.sync = 0xFF ∧ f.checksum = f.address + f.cmd1 + f.cmd2 + f.data1 + f.data2) := by
  rw [Bool.eq_iff_iff, decide_eq_true_iff, validateFrame_iff_add]

/-- DATA of ENCODE by the bytes of the frame, the checksum as an 8-bit sum (R110, R112, R118). -/
theorem packFrame_encodeFrame (a : Byte) (p : Payload) :
    packFrame (encodeFrame a p) =
      0xFF#8 ++ a ++ p.cmd1 ++ p.cmd2 ++ p.data1 ++ p.data2 ++ (a + p.cmd1 + p.cmd2 + p.data1 + p.data2) := by
  rw [← checksum_eq_add]
  rfl

theorem exec_validate (f : Frame) (s : State) :
    exec (.validate f) s = immediate (respond .ok (validateFrame f) 0) s := rfl

theorem exec_encode (ea : Byte) (p : Payload) (s : State) :
    exec (.encode ea p) s = immediate (respond .ok false (packFrame (encodeFrame ea p))) s := rfl

/-- Settles O20: OP 0xD selects VALIDATE, whose accepting step responds with what Validate answers. -/
theorem validateOperation : Obligations.ValidateOperation :=
  ⟨fun _ h => decode_eq_validate h,
    fun _ _ _ f hp hr => by rw [exec_validate, validateFrame_eq_decide, immediate_respond hp hr]⟩

/-- Settles O21: OP 0xE selects ENCODE, whose accepting step responds with the packed frame. -/
theorem encodeOperation : Obligations.EncodeOperation :=
  ⟨fun _ h => decode_eq_encode h,
    fun _ _ _ ea p hp hr => by rw [exec_encode, packFrame_encodeFrame, immediate_respond hp hr]⟩

end Sys2Proof.Machine
end

section
/-! PROOFS. The motion operations: the steps of an operation with a frame, the frames of the fixed operations, the stop
frame, and a write that fails inside a timed operation (spec/41_motion.md R131 to R135, R142, R147). -/

namespace Sys2Proof.Machine

/-! ## The frames -/

/-- Encode with the payload bytes summed before the address, as the rules of the fixed operations write the checksum. -/
theorem encodeFrame_eq_addr_add_sum (a : Byte) (p : Payload) :
    encodeFrame a p =
      ⟨0xFF, a, p.cmd1, p.cmd2, p.data1, p.data2, a + (p.cmd1 + p.cmd2 + p.data1 + p.data2)⟩ := by
  simp only [encodeFrame, checksum_eq_add, BitVec.add_assoc]

/-- A stop payload adds nothing to the checksum, which so equals the address (R131). -/
theorem encodeFrame_stopPayload (a : Byte) : encodeFrame a stopPayload = stopFrame a := by
  simp [encodeFrame_eq_addr_add_sum, stopPayload, stopFrame]

/-! ## The steps of an operation with a frame -/

/-- An operation with a first frame is accepted by latching its word and entering ISSUE1 (R95). -/
theorem timedMotion_presented {s : State} {w : ReqWord} {rest : List ReqWord} (hp : s.phase = .idle)
    (hr : s.requests = w :: rest) (p : Payload) (dur : Duration) :
    timedMotion p dur s = .next (s.accepted w rest) := by
  simp only [timedMotion, hp, accept_presented hr]
  rfl

/-- In ISSUE1 the frame is written with the ADDR of this moment (R43, R140). -/
theorem timedMotion_issue1 {s : State} (hp : s.phase = .issue1) (p : Payload) (dur : Duration) :
    timedMotion p dur s = .next (s.wroteAndTimed (encodeFrame s.addr p) dur) := by
  simp only [timedMotion, hp, issueFirst_wroteAndTimed]

/-- No duration, or a failed write under TIMED_ABORT_ON_WRITE_FAIL, ends the operation after its one write (R140,
R147). -/
theorem wroteAndTimed_eq_responded {s : State} {dur : Duration}
    (h : dur = 0 ∨ replyAnswer (nextReply s) = .err ∧ s.cfgTimedAbort = true) (f : Frame) :
    s.wroteAndTimed f dur = s.wroteAndResponded f := by
  refine if_neg fun ⟨hd, hw⟩ => ?_
  obtain h0 | ⟨herr, habort⟩ := h
  · exact hd h0
  · simp [herr, habort] at hw

/-- With TIMED_ABORT_ON_WRITE_FAIL false a failed motion write is remembered and the wait begins all the same (R147). -/
theorem wroteAndTimed_eq_waiting {s : State} {dur : Duration} (hd : dur ≠ 0) (hc : s.cfgTimedAbort = false)
    (herr : replyAnswer (nextReply s) = .err) (f : Frame) :
    s.wroteAndTimed f dur = { s.wrote f with timer := dur, motionErr := true, phase := .wait } := by
  rw [State.wroteAndTimed, if_pos ⟨hd, .inr hc⟩, herr]
  rfl

/-- The whole ISSUE1 step of an operation of one frame: one write, and the response with its outcome (R130). -/
theorem fixedOp_issue1 {s : State} (hp : s.phase = .issue1) (p : Payload) :
    fixedOp p s = .next (s.wroteAndResponded (encodeFrame s.addr p)) := by
  rw [fixedOp, timedMotion_issue1 hp, wroteAndTimed_eq_responded (.inl rfl)]

/-- The same step with the frame byte by byte. -/
theorem fixedOp_issue1_bytes {s : State} (hp : s.phase = .issue1) (p : Payload) :
    fixedOp p s = .next (s.wroteAndResponded
      ⟨0xFF, s.addr, p.cmd1, p.cmd2, p.data1, p.data2, s.addr + (p.cmd1 + p.cmd2 + p.data1 + p.data2)⟩) := by
  rw [fixedOp_issue1 hp, encodeFrame_eq_addr_add_sum]

/-- A timed operation moves with the payload and the duration that the table of R77 gives it (R136 to R138, R145). -/
theorem exec_timedAs {i : Instr} {p : Payload} {dur : Duration} (h : i.TimedAs p dur) (s : State) :
    exec i s = timedMotion p dur s := by
  cases h <;> rfl

/-! ## The wait and the stop frame, for every instruction -/

/-- In WAIT every instruction makes the same step (R141). -/
theorem exec_wait (i : Instr) {s : State} (hp : s.phase = .wait) : exec i s = .next (waitStep s) := by
  obtain ⟨t, e⟩ := exec_next i s (by simp [hp])
  rcases exec_cases e with ⟨h, _⟩ | ⟨_, _, h, _⟩ | ⟨_, _, _, _, _, _, h, _⟩ | ⟨_, h, _⟩ | ⟨_, rfl⟩ | ⟨h, _⟩ | ⟨h, _⟩
  case inr.inr.inr.inr.inl => exact e
  all_goals exact absurd (hp.symm.trans h) (by decide)

/-- A wait accepts no request (R131). -/
@[simp] theorem waitStep_requests (s : State) : (waitStep s).requests = s.requests := by
  rcases waitStep_cases s with ⟨_, e⟩ | ⟨_, e⟩ <;> rw [e]

theorem status_eq_sinkIoError_iff (a : SinkAnswer) : a.status = .sinkIoError ↔ a = .err := by
  cases a <;> decide

/-- The ISSUE2 step is an operation of the stop frame, but for TIMER, which is forgotten, and for the status when a failed
motion write is remembered (R142, R147). -/
theorem issueStop_eq (s : State) :
    issueStop s =
      { s.wroteAndResponded (stopFrame s.addr) with
        statusL := if s.cfgTimedAbort = false ∧ s.motionErr = true then .sinkIoError
          else (replyAnswer (nextReply s)).status
        timer := Config.freeTimer (s.draws + 1)
        draws := s.draws + 2 } := by
  rcases issueStop_cases s with ⟨hok, hm, e⟩ | ⟨hbad, e⟩ <;> rw [e, issueFrame_wrote, encodeFrame_stopPayload]
  · have hn : ¬(s.cfgTimedAbort = false ∧ s.motionErr = true) := by
      rintro ⟨hc, he⟩
      simp [hc, he] at hm
    rw [if_neg hn, hok]
    rfl
  · have hs : (if s.cfgTimedAbort = false ∧ s.motionErr = true then Status.sinkIoError
        else (replyAnswer (nextReply s)).status) = .sinkIoError := by
      rw [ite_eq_left_iff, status_eq_sinkIoError_iff]
      exact hbad.resolve_right
    rw [hs]
    rfl

/-- The response of the ISSUE2 step reports a failed stop write, and a failed motion write that the step remembers (R142,
R147). -/
theorem issueStop_statusL_eq_sinkIoError_iff (s : State) :
    (issueStop s).statusL = .sinkIoError ↔
      (s.cfgTimedAbort = false ∧ s.motionErr = true) ∨ replyAnswer (nextReply s) = .err := by
  rw [issueStop_eq, ← status_eq_sinkIoError_iff]
  by_cases h : s.cfgTimedAbort = false ∧ s.motionErr = true <;> simp [h]

@[simp] theorem issueStop_phase (s : State) : (issueStop s).phase = .respond := by rw [issueStop_eq]; rfl

@[simp] theorem issueStop_flagL (s : State) : (issueStop s).flagL = false := by rw [issueStop_eq]; rfl

@[simp] theorem issueStop_dataL (s : State) : (issueStop s).dataL = 0 := by rw [issueStop_eq]; rfl

@[simp] theorem issueStop_addr (s : State) : (issueStop s).addr = s.addr := by rw [issueStop_eq]; rfl

@[simp] theorem issueStop_writes (s : State) :
    (issueStop s).writes = s.writes ++ [⟨stopFrame s.addr, replyAnswer (nextReply s)⟩] := by rw [issueStop_eq]; rfl

/-! ## The operations -/

/-- Settles O13: STOP is the fixed operation of the stop payload, and a wait leaves the presented requests alone. -/
theorem stopOperation : Obligations.StopOperation := by
  refine ⟨fun _ h => decode_eq_stop h, fun s w rest hp hr => timedMotion_presented hp hr stopPayload 0, ?_, ?_⟩
  · intro s hp
    have e : exec .stop s = _ := fixedOp_issue1 hp stopPayload
    rwa [encodeFrame_stopPayload] at e
  · intro i s t hp e
    rw [exec_wait i hp] at e
    cases e
    exact waitStep_requests s

/-- Settles O14: each of the four is the fixed operation of its row of R77, whose payload bytes sum to the constant of its
checksum. -/
theorem untimedMotionOperations : Obligations.UntimedMotionOperations :=
  ⟨fun _ => ⟨decode_eq_panRight, decode_eq_panLeft, decode_eq_tiltUp, decode_eq_tiltDown⟩,
    fun _ _ _ hp hr =>
      ⟨timedMotion_presented hp hr panRightPayload 0, timedMotion_presented hp hr panLeftPayload 0,
        timedMotion_presented hp hr tiltUpPayload 0, timedMotion_presented hp hr tiltDownPayload 0⟩,
    fun _ hp =>
      ⟨fixedOp_issue1_bytes hp panRightPayload, fixedOp_issue1_bytes hp panLeftPayload,
        fixedOp_issue1_bytes hp tiltUpPayload, fixedOp_issue1_bytes hp tiltDownPayload⟩⟩

/-- Settles O29: with the parameter true nothing is remembered of the motion write, so the status is the stop write's. -/
theorem stopFrameStepOfEveryInstruction : Obligations.StopFrameStepOfEveryInstruction := by
  intro i s hp hc
  refine ⟨issueStop s, Config.freeTimer (s.draws + 1), s.draws + 2, exec_issue2 i s hp, ?_⟩
  have hn : ¬(s.cfgTimedAbort = false ∧ s.motionErr = true) := by simp [hc]
  rw [issueStop_eq, if_neg hn]
  rfl

/-- Settles O31: the motion write decides between the response and the wait by the parameter, and the stop write's response
reports both writes. -/
theorem failureInsideATimedOperation : Obligations.FailureInsideATimedOperation := by
  refine ⟨?motion, ?stop, ?otherMotion, ?otherStop⟩
  case motion =>
    intro i p dur s h hp hc herr
    rw [exec_timedAs h, timedMotion_issue1 hp, wroteAndTimed_eq_responded (.inr ⟨herr, hc⟩)]
  case stop =>
    intro i s hp herr
    exact ⟨_, exec_issue2 i s hp, issueStop_phase s, (issueStop_statusL_eq_sinkIoError_iff s).2 (.inr herr),
      issueStop_flagL s, issueStop_dataL s, issueStop_addr s, herr ▸ issueStop_writes s⟩
  case otherMotion =>
    intro i p dur s h hd hp hc herr
    rw [exec_timedAs h, timedMotion_issue1 hp, wroteAndTimed_eq_waiting hd hc herr]
  case otherStop =>
    intro i s hp hc
    refine ⟨_, exec_issue2 i s hp, issueStop_phase s, issueStop_writes s, ?_⟩
    simpa [hc] using issueStop_statusL_eq_sinkIoError_iff s

end Sys2Proof.Machine
end

section
/-! PROOFS. The preset operations: the clamped identifier as an 8-bit value, the frame of a preset operation, and its two
steps (spec/42_preset.md R160 to R163). -/

namespace Sys2Proof.Machine

/-! ## The frame -/

/-- The clamp of R11 on an unsigned byte is a minimum: no identifier is below 0, and what is left fits in 8 bits (R79). -/
theorem clampId_toNat (id : Byte) : (clampId id).toNat = min id.toNat 127 := by
  have hclamp : clamp (Int.ofNat id.toNat) 0 127 = (min id.toNat 127 : Nat) := by
    simp only [clamp, Int.ofNat_eq_natCast]
    omega
  rw [clampId, hclamp, BitVec.ofInt_natCast, BitVec.toNat_ofNat]
  omega

/-- A byte with the value of R79 is the preset byte. -/
theorem clampId_eq_of_toNat {id c : Byte} (hc : c.toNat = min id.toNat 127) : clampId id = c :=
  BitVec.eq_of_toNat_eq ((clampId_toNat id).trans hc.symm)

/-- The frame of a preset operation: its two bytes 0 add nothing to the checksum (R160). -/
theorem encodeFrame_presetPayload (a k id : Byte) :
    encodeFrame a (presetPayload k id) = ⟨0xFF, a, 0x00, k, 0x00, clampId id, a + k + clampId id⟩ := by
  simp [encodeFrame, checksum_eq_add, presetPayload]

/-! ## The steps -/

/-- A preset operation has a frame, so it is accepted into ISSUE1 (R95). -/
theorem presetOp_presented {s : State} {w : ReqWord} {rest : List ReqWord} (hp : s.phase = .idle)
    (hr : s.requests = w :: rest) (k id : Byte) : presetOp k id s = .next (s.accepted w rest) :=
  timedMotion_presented hp hr (presetPayload k id) 0

/-- In ISSUE1 it writes that frame and responds with the write's outcome (R160). -/
theorem presetOp_issue1 {s : State} {id c : Byte} (hp : s.phase = .issue1) (hc : c.toNat = min id.toNat 127)
    (k : Byte) :
    presetOp k id s = .next (s.wroteAndResponded ⟨0xFF, s.addr, 0x00, k, 0x00, c, s.addr + k + c⟩) := by
  rw [presetOp, fixedOp_issue1 hp, encodeFrame_presetPayload, clampId_eq_of_toNat hc]

/-! ## The operations -/

/-- Settles O17: each of the three is the preset operation of its own cmd2 byte. -/
theorem presetOperations : Obligations.PresetOperations :=
  ⟨fun _ => ⟨decode_eq_setPreset, decode_eq_clearPreset, decode_eq_gotoPreset⟩,
    fun _ _ _ id hp hr =>
      ⟨presetOp_presented hp hr 0x03 id, presetOp_presented hp hr 0x05 id, presetOp_presented hp hr 0x07 id⟩,
    fun _ _ _ hp hc => ⟨presetOp_issue1 hp hc 0x03, presetOp_issue1 hp hc 0x05, presetOp_issue1 hp hc 0x07⟩⟩

end Sys2Proof.Machine
end

section
/-! PROOFS. SEND_COMMAND and SET_ADDRESS (spec/43_send_command_and_address.md R170, R171, R173). -/

namespace Sys2Proof.Machine

/-! ## Decoding -/

/-- At the declared length 4 every lane is covered, so the payload is the four lanes of the word (R84). -/
theorem decode_eq_sendCommand_four {w : ReqWord} (hop : opField w = 0xB) (hlen : auxField w = 4) :
    decode w = .sendCommand 4 ⟨operandByte w 0, operandByte w 1, operandByte w 2, operandByte w 3⟩ := by
  rw [decode_eq_sendCommand hop, hlen, laneOf_covered (by decide), laneOf_covered (by decide),
    laneOf_covered (by decide), laneOf_covered (by decide)]

/-! ## The two outcomes of the length check -/

/-- The one length that passes the check makes a fixed operation of any four bytes (R170). -/
theorem exec_sendCommand_four (p : Payload) (s : State) : exec (.sendCommand 4 p) s = fixedOp p s := rfl

/-- Any other length is a malformed request, whatever its lanes (R171). -/
theorem exec_sendCommand_malformed {plen : BitVec 4} (h : plen ≠ 4) (p : Payload) (s : State) :
    exec (.sendCommand plen p) s = immediate (raise .malformedCommand) s :=
  if_neg h

theorem exec_setAddress (a : Byte) (s : State) : exec (.setAddress a) s = immediate (setAddr a) s := rfl

/-! ## The operations -/

/-- Settles O18: OP 0xB selects SEND_COMMAND, and its length check decides between the fixed operation of the four lanes and
the failure raised in the accepting step. -/
theorem sendCommandOperation : Obligations.SendCommandOperation := by
  refine ⟨?decodeFour, ?decodeAny, ?malformed, rfl, ?accepting, ?issue⟩
  case decodeFour => exact fun w hop hlen => decode_eq_sendCommand_four hop hlen
  case decodeAny => exact fun w hop => ⟨_, decode_eq_sendCommand hop⟩
  case malformed =>
    intro s w rest plen p hp hr hlen
    rw [exec_sendCommand_malformed hlen]
    exact immediate_raise hp hr .malformedCommand
  case accepting =>
    intro s w rest p hp hr
    rw [exec_sendCommand_four, fixedOp, timedMotion_presented hp hr]
  case issue =>
    intro s p hp
    rw [exec_sendCommand_four, fixedOp_issue1 hp, encodeFrame, checksum_eq_add]

/-- Settles O19: OP 0xC selects SET_ADDRESS, whose accepting step answers OK with ADDR replaced. -/
theorem setAddressOperation : Obligations.SetAddressOperation :=
  ⟨fun _ h => decode_eq_setAddress h,
    fun _ _ _ a hp hr => by
      rw [exec_setAddress, immediate_presented hp hr]
      rfl⟩

end Sys2Proof.Machine
end

section
/-! PROOFS. The state after reset (spec/70_reset_and_hazards.md R221): the registers R221 names, with any configuration, and
the default configuration of R5. -/

namespace Sys2Proof.Machine

/-! resetWith -/

@[simp] theorem resetWith_addr (a : Byte) (d : Bool) : (State.resetWith a d).addr = a := rfl
@[simp] theorem resetWith_cfgAddr (a : Byte) (d : Bool) : (State.resetWith a d).cfgAddr = a := rfl
@[simp] theorem resetWith_cfgDebug (a : Byte) (d : Bool) : (State.resetWith a d).cfgDebug = d := rfl
@[simp] theorem resetWith_phase (a : Byte) (d : Bool) : (State.resetWith a d).phase = .idle := rfl
@[simp] theorem resetWith_requests (a : Byte) (d : Bool) : (State.resetWith a d).requests = [] := rfl
@[simp] theorem resetWith_writes (a : Byte) (d : Bool) : (State.resetWith a d).writes = [] := rfl
@[simp] theorem resetWith_responses (a : Byte) (d : Bool) : (State.resetWith a d).responses = [] := rfl
@[simp] theorem resetWith_line (a : Byte) (d : Bool) : (State.resetWith a d).line = [] := rfl

/-- The default configuration is address 0x01 with the diagnostic echo off (R5). -/
theorem reset_eq_resetWith : State.reset = State.resetWith 0x01 false := rfl

/-- Settles O40: the configuration is read back from ADDR and the two configuration registers, and the phase and the lists
are those of a block that has done nothing. -/
theorem stateAfterReset : Obligations.StateAfterReset :=
  ⟨fun a d => ⟨resetWith_addr a d, resetWith_cfgAddr a d, resetWith_cfgDebug a d, resetWith_phase a d,
    resetWith_responses a d, resetWith_requests a d, resetWith_writes a d, resetWith_line a d⟩, reset_eq_resetWith⟩

end Sys2Proof.Machine
end

section
/-! PROOFS. Decode and encode agree: the decoder gives back every well-formed instruction and answers no other, and the
sample words of table V5 (spec/30_encoding.md section 3, spec/95_test_vectors.md). -/

namespace Sys2Proof

/-! ## Tokens and lanes -/

/-- The token of a well-formed direction selects that direction: an unknown token is none of the four known ones (R83,
R90). -/
theorem directionOf_token {dir : Direction} (h : dir.wellFormed = true) : directionOf dir.token = dir := by
  cases dir with
  | up => rfl
  | down => rfl
  | left => rfl
  | right => rfl
  | unknown token => exact directionOf_unknown (of_decide_eq_true h)

theorem directionOf_wellFormed (token : BitVec 4) : (directionOf token).wellFormed = true := by
  by_cases h : 4 ≤ token.toNat
  · rw [directionOf_unknown h]
    exact decide_eq_true h
  · have known : ∀ u : BitVec 4, ¬4 ≤ u.toNat → (directionOf u).wellFormed = true := by decide
    exact known token h

/-- A well-formed lane is either covered by the declared length or 0, which is how an uncovered one is read (R84). -/
theorem laneOf_eq_of_wellFormed {plen : BitVec 4} {k : Nat} {b : Byte} (h : laneWellFormed plen k b = true) :
    laneOf plen k b = b := by
  by_cases hk : k < plen.toNat
  · exact laneOf_covered hk b
  · have hb : b = 0 := by simpa [laneWellFormed, hk] using h
    simp [laneOf, hk, hb]

theorem laneOf_wellFormed (plen : BitVec 4) (k : Nat) (b : Byte) : laneWellFormed plen k (laneOf plen k b) = true := by
  by_cases hk : k < plen.toNat <;> simp [laneWellFormed, laneOf, hk]

/-! ## The round trip -/

/-- SEND_COMMAND of any declared length, its lanes read back as R84 has them. -/
theorem decode_encode_sendCommand (plen : BitVec 4) (p : Payload) :
    decode (encode (.sendCommand plen p)) =
      .sendCommand plen ⟨laneOf plen 0 p.cmd1, laneOf plen 1 p.cmd2, laneOf plen 2 p.data1, laneOf plen 3 p.data2⟩ := by
  obtain ⟨h0, h1, h2, h3⟩ := operandByte_reqWord_payload 0xB plen p.cmd1 p.cmd2 p.data1 p.data2 0#24
  rw [encode, decode_eq_sendCommand (opField_reqWord _ _ _), auxField_reqWord, h0, h1, h2, h3]

/-- Settles O1: OP selects the decoder's equation for the operation encoded, and each operand is read back from where it
was packed; well-formedness is asked for by PAN_TILT's token and SEND_COMMAND's lanes alone. -/
theorem decodeOfEncodeIsIdentity : Obligations.DecodeOfEncodeIsIdentity := by
  intro i hi
  cases i with
  | stop => exact decode_eq_stop (opField_reqWord _ _ _)
  | panRight => exact decode_eq_panRight (opField_reqWord _ _ _)
  | panLeft => exact decode_eq_panLeft (opField_reqWord _ _ _)
  | tiltUp => exact decode_eq_tiltUp (opField_reqWord _ _ _)
  | tiltDown => exact decode_eq_tiltDown (opField_reqWord _ _ _)
  | zoomIn dur => rw [encode, durOperand, decode_eq_zoomIn (opField_reqWord _ _ _), durField_reqWord_append]
  | zoomOut dur => rw [encode, durOperand, decode_eq_zoomOut (opField_reqWord _ _ _), durField_reqWord_append]
  | setPreset id => rw [encode, byteOperand, decode_eq_setPreset (opField_reqWord _ _ _), operandByte_reqWord_append]
  | clearPreset id =>
    rw [encode, byteOperand, decode_eq_clearPreset (opField_reqWord _ _ _), operandByte_reqWord_append]
  | gotoPreset id => rw [encode, byteOperand, decode_eq_gotoPreset (opField_reqWord _ _ _), operandByte_reqWord_append]
  | panTilt dir dur => rw [encode, durOperand, decode_reqWord_panTilt, directionOf_token hi]
  | sendCommand plen p =>
    simp only [Instr.wellFormed, Bool.and_eq_true] at hi
    obtain ⟨⟨⟨h0, h1⟩, h2⟩, h3⟩ := hi
    rw [decode_encode_sendCommand, laneOf_eq_of_wellFormed h0, laneOf_eq_of_wellFormed h1,
      laneOf_eq_of_wellFormed h2, laneOf_eq_of_wellFormed h3]
  | setAddress a => rw [encode, byteOperand, decode_eq_setAddress (opField_reqWord _ _ _), operandByte_reqWord_append]
  | validate f => exact decode_reqWord_validate 0 _ _ _ _ _ _ _
  | encode ea p => exact decode_reqWord_encode 0 ea _ _ _ _ _
  | reservedF => exact decode_eq_reservedF (opField_reqWord _ _ _)

/-- Settles O2: of the sixteen arms of the decoder only those of PAN_TILT and SEND_COMMAND build an operand that could
be ill-formed. -/
theorem decodedInstructionsAreWellFormed : Obligations.DecodedInstructionsAreWellFormed := by
  intro w
  unfold decode
  split
  case h_11 => exact directionOf_wellFormed _
  case h_12 => simp only [Instr.wellFormed, laneOf_wellFormed, Bool.and_self]
  all_goals rfl

/-- Settles O4: nine closed words, each read by the decoder's equation for its OP. -/
theorem sampleRequestWordsDecode : Obligations.SampleRequestWordsDecode :=
  ⟨decode_eq_panRight (by decide), decode_eq_zoomIn (by decide), decode_eq_setPreset (by decide),
    decode_eq_panTilt (by decide), decode_eq_sendCommand (by decide), decode_eq_setAddress (by decide),
    decode_eq_validate (by decide), decode_eq_encode (by decide), decode_eq_reservedF (by decide)⟩

end Sys2Proof
end

section
/-! PROOFS. The response word and a frame packed in DATA, read back field by field (spec/30_encoding.md R87, R88, R44).
-/

namespace Sys2Proof.Machine

/-- A response word as a number. -/
theorem responseWord_toNat (r : Response) :
    (responseWord r).toNat =
      (((statusCode r.status).toNat * 2 ^ 5) * 2 ^ 1 + (BitVec.ofBool r.flag).toNat) * 2 ^ 56 + r.data.toNat :=
  (toNat_append_eq (statusCode r.status ++ 0#5 ++ BitVec.ofBool r.flag) r.data).trans
    (by simp only [toNat_append_eq]; rfl)

theorem responseWord_fields (r : Response) :
    (responseWord r).extractLsb' 62 2 = statusCode r.status ∧
    (responseWord r).extractLsb' 57 5 = 0 ∧
    (responseWord r).extractLsb' 56 1 = BitVec.ofBool r.flag ∧
    (responseWord r).extractLsb' 0 56 = r.data := by
  simp only [← BitVec.toNat_inj, toNat_extract, responseWord_toNat, BitVec.ofNat_eq_ofNat, BitVec.toNat_ofNat,
    Nat.zero_mod]
  have := (BitVec.ofBool r.flag).isLt
  omega

theorem packFrame_bytes (f : Frame) :
    (packFrame f).extractLsb' 48 8 = f.sync ∧ (packFrame f).extractLsb' 40 8 = f.address ∧
    (packFrame f).extractLsb' 32 8 = f.cmd1 ∧ (packFrame f).extractLsb' 24 8 = f.cmd2 ∧
    (packFrame f).extractLsb' 16 8 = f.data1 ∧ (packFrame f).extractLsb' 8 8 = f.data2 ∧
    (packFrame f).extractLsb' 0 8 = f.checksum := by
  simp only [packFrame, ← BitVec.toNat_inj, toNat_extract, toNat_append_frame]
  omega

/-- Settles O5: the fields of both words, and the four codes of R88. -/
theorem responseWordFields : Obligations.ResponseWordFields :=
  ⟨responseWord_fields, rfl, rfl, rfl, rfl, packFrame_bytes⟩

end Sys2Proof.Machine
end

section
/-! PROOFS. The operations with a duration, what is common to all operations of their kind, and the preset identifiers
(spec/41_motion.md R136 to R146, spec/30_encoding.md R79, R94, R95, spec/42_preset.md R164). -/

namespace Sys2Proof.Machine

/-! ## Timed operations -/

/-- The ISSUE1 step of an operation with a frame, the frame byte by byte. -/
theorem timedMotion_issue1_bytes {s : State} (hp : s.phase = .issue1) (p : Payload) (dur : Duration) :
    timedMotion p dur s = .next (s.wroteAndTimed
      ⟨0xFF, s.addr, p.cmd1, p.cmd2, p.data1, p.data2, s.addr + (p.cmd1 + p.cmd2 + p.data1 + p.data2)⟩ dur) := by
  rw [timedMotion_issue1 hp, encodeFrame_eq_addr_add_sum]

/-- Settles O15: each zoom is the timed operation of its row of R77. -/
theorem zoomOperations : Obligations.ZoomOperations :=
  ⟨fun _ => ⟨decode_eq_zoomIn, decode_eq_zoomOut⟩,
    fun _ _ _ dur hp hr =>
      ⟨timedMotion_presented hp hr zoomInPayload dur, timedMotion_presented hp hr zoomOutPayload dur⟩,
    fun _ dur hp =>
      ⟨timedMotion_issue1_bytes hp zoomInPayload dur, timedMotion_issue1_bytes hp zoomOutPayload dur⟩⟩

/-- An unknown direction selects no payload, and all that is left is the response OK (R146). -/
theorem exec_panTilt_unknown (token : BitVec 4) (dur : Duration) (s : State) :
    exec (.panTilt (.unknown token) dur) s = immediate (respond .ok false 0) s := rfl

/-- Settles O16: a known direction is the timed operation of its row of R77, an unknown one responds at once. -/
theorem panTiltOperation : Obligations.PanTiltOperation :=
  ⟨fun _ _ _ dur hp hr =>
      ⟨timedMotion_presented hp hr tiltUpPayload dur, timedMotion_presented hp hr tiltDownPayload dur,
        timedMotion_presented hp hr panLeftPayload dur, timedMotion_presented hp hr panRightPayload dur,
        fun token => by rw [exec_panTilt_unknown, immediate_respond hp hr]⟩,
    fun _ dur hp =>
      ⟨timedMotion_issue1_bytes hp tiltUpPayload dur, timedMotion_issue1_bytes hp tiltDownPayload dur,
        timedMotion_issue1_bytes hp panLeftPayload dur, timedMotion_issue1_bytes hp panRightPayload dur⟩⟩

/-! ## The steps that do not depend on the instruction -/

/-- In RESPOND every instruction makes the same step (R95, R195). -/
theorem exec_respond (i : Instr) {s : State} (hp : s.phase = .respond) : exec i s = .next (takeResponse s) := by
  obtain ⟨t, e⟩ := exec_next i s (by simp [hp])
  rcases exec_cases e with ⟨h, _⟩ | ⟨_, _, h, _⟩ | ⟨_, _, _, _, _, _, h, _⟩ | ⟨_, h, _⟩ | ⟨h, _⟩ | ⟨h, _⟩ | ⟨_, rfl⟩
  case inr.inr.inr.inr.inr.inr => exact e
  all_goals exact absurd (hp.symm.trans h) (by decide)

/-- Settles O30. -/
theorem takingTheResponse : Obligations.TakingTheResponse :=
  fun i _ hp => exec_respond i hp

/-- Settles O28: the step of WAIT does not ask for the instruction, and is a tick or the step to ISSUE2. -/
theorem waitStepOfEveryInstruction : Obligations.WaitStepOfEveryInstruction := by
  intro i s hp
  rw [exec_wait i hp]
  rcases waitStep_cases s with ⟨ht, e⟩ | ⟨ht, e⟩
  · exact ⟨fun _ => congrArg _ e, fun h => absurd h ht⟩
  · exact ⟨fun h => absurd ht h, fun _ => congrArg _ e⟩

/-! ## Operations with a frame, operations without one -/

/-- Settles O27: an operation with a first frame is a timed motion, which is accepted into ISSUE1. -/
theorem acceptingStep : Obligations.AcceptingStep := by
  intro i s w rest hi hp hr
  obtain ⟨p, e⟩ := exec_issuesFrame i hi
  rw [e, timedMotion_presented hp hr]

/-- Settles O23: from IDLE such an operation has nothing to accept, or answers at once. -/
theorem operationsWithoutFrameWriteNothing : Obligations.OperationsWithoutFrameWriteNothing := by
  intro i s t hi hp e
  rcases exec_cases e with ⟨_, _, rfl⟩ | ⟨_, _, _, _, h, _⟩ | ⟨_, _, _, _, _, _, _, _, _, rfl, _⟩ | ⟨_, h, _⟩ | ⟨h, _⟩ |
    ⟨h, _⟩ | ⟨h, _⟩
  case inl => exact ⟨rfl, rfl, rfl, rfl, rfl⟩
  case inr.inl => exact absurd (hi.symm.trans h) (by decide)
  case inr.inr.inl => exact ⟨rfl, rfl, rfl, rfl, rfl⟩
  all_goals exact absurd (hp.symm.trans h) (by decide)

/-- Replacing the address moves the checksum by the same amount (R174). -/
theorem checksum_sub_checksum (a b : Byte) (p : Payload) : checksum b p - checksum a p = b - a := by
  rw [checksum_eq_add, checksum_eq_add]
  ring

/-- Settles O26: both runs write the same payload, encoded with their own ADDR, and the sink's next reply does not
depend on ADDR. -/
theorem addressChangesTwoFrameBytes : Obligations.AddressChangesTwoFrameBytes := by
  intro i s b hi hp
  obtain ⟨p, e⟩ := exec_issuesFrame i hi
  have hb : ({ s with addr := b } : State).phase = .issue1 := hp
  exact ⟨_, _, encodeFrame s.addr p, encodeFrame b p, _, _, (e s).trans (timedMotion_issue1 hp p _),
    (e _).trans (timedMotion_issue1 hb p _), wroteAndTimed_writes s _ _, wroteAndTimed_writes _ _ _,
    congrArg replyAnswer (nextReply_congr rfl rfl), rfl, rfl, rfl, rfl, rfl, rfl, rfl, checksum_sub_checksum _ _ p⟩

/-! ## Operations with equal meaning -/

/-- The byte that every identifier of 127 or more is sent as (R164). -/
theorem clampId_of_ge {id : Byte} (h : 127 ≤ id.toNat) : clampId id = 0x7F :=
  clampId_eq_of_toNat (Nat.min_eq_right h).symm

/-- Settles O25: the three operations see their identifier through the clamp alone. -/
theorem presetsAbove127Coincide : Obligations.PresetsAbove127Coincide := by
  intro a b s ha hb
  have hk : ∀ k, presetOp k a s = presetOp k b s := fun k => by
    rw [presetOp, presetOp, presetPayload, presetPayload, clampId_of_ge ha, clampId_of_ge hb]
  exact ⟨hk 0x03, hk 0x05, hk 0x07⟩

/-- Settles O24: each operation of a pair is the fixed operation of one payload; that of SET_PRESET 200 has the clamped
identifier in it. -/
theorem operationsWithEqualMeaning : Obligations.OperationsWithEqualMeaning := by
  intro s
  have hset : exec (.setPreset 200) s = fixedOp ⟨0x00, 0x03, 0x00, 0x7F⟩ s := by
    rw [← clampId_of_ge (id := 200) (by decide)]
    rfl
  exact ⟨rfl, rfl, rfl, rfl, rfl, rfl, rfl, rfl, hset⟩

/-! ## The clamp -/

/-- Bit 7 of a byte stands for 128. -/
theorem getLsbD_seven_iff (b : Byte) : b.getLsbD 7 = true ↔ 127 < b.toNat := by
  rw [BitVec.getLsbD, Nat.testBit_eq_decide_div_mod_eq, decide_eq_true_iff]
  omega

theorem clampId_eq_ite (id : Byte) : clampId id = if id.getLsbD 7 then 0x7F else id := by
  by_cases h : id.getLsbD 7 = true
  · rw [if_pos h, clampId_of_ge ((getLsbD_seven_iff id).1 h).le]
  · rw [if_neg h]
    rw [getLsbD_seven_iff] at h
    exact clampId_eq_of_toNat (Nat.min_eq_left (Nat.le_of_not_lt h)).symm

/-- Settles O12: on integers the three ranges of R11, on bytes a minimum, which bit 7 decides. -/
theorem presetIdentifierClamp : Obligations.PresetIdentifierClamp := by
  refine ⟨fun x => ?_, fun id => ⟨clampId_toNat id, clampId_eq_ite id⟩, fun _ _ => ⟨rfl, rfl⟩⟩
  unfold clamp
  omega

end Sys2Proof.Machine
end

section
/-! PROOFS. The step as the world outside schedules it, the hangs, and reset in mid-run (spec/10_state.md R24,
spec/70_reset_and_hazards.md R222, R224, R235). -/

namespace Sys2Proof.Machine

/-! ## One equation per move of the schedule -/

theorem step_of_nil {s : State} (h : s.schedule = []) : step s = runParty s := by
  simp [step, scheduledStep, h]

theorem step_of_proceed {s : State} {moves : List EnvMove} (h : s.schedule = .proceed :: moves) :
    step s = runParty { s with schedule := moves } := by
  simp [step, scheduledStep, h]

theorem step_of_hold {s : State} {moves : List EnvMove} (h : s.schedule = .hold :: moves) :
    step s = .next { s with schedule := moves } := by
  simp [step, scheduledStep, h]

/-- Under a stall the steps that are the block's own are made all the same (R235). -/
theorem step_of_stall {s : State} {moves : List EnvMove} (h : s.schedule = .stall :: moves)
    (hd : awaitsDuty s = false) : step s = runParty s := by
  simp [step, scheduledStep, h, stalledStep, hd]

theorem step_of_reset {s : State} {a : Byte} {d : Bool} {c : Option (Fin 8)} {moves : List EnvMove}
    (h : s.schedule = .reset a d c :: moves) : step s = .next (resetEvent a d c { s with schedule := moves }) := by
  simp [step, scheduledStep, h]

/-! ## The party whose turn it is -/

theorem runParty_silent {s : State} (hp : s.phase = .idle) (hr : s.requests = []) : runParty s = .next s := by
  simp [runParty, currentWord, hp, hr]

theorem runParty_presented {s : State} {w : ReqWord} {rest : List ReqWord} (hp : s.phase = .idle)
    (hr : s.requests = w :: rest) : runParty s = exec (decode w) s := by
  simp [runParty, currentWord, hp, hr]

theorem runParty_busy {s : State} (hp : s.phase ≠ .idle) : runParty s = exec (decode s.reqL) s := by
  rcases runParty_cases s with ⟨h, _⟩ | ⟨_, _, h, _⟩ | ⟨_, e⟩
  · exact absurd h hp
  · exact absurd h hp
  · exact e

/-- In IDLE nobody owes the block anything (R234). -/
theorem awaitsDuty_of_idle {s : State} (hp : s.phase = .idle) : awaitsDuty s = false := by
  simp [awaitsDuty, hp]

/-- The step that ends a wait is the block's own (R148). -/
theorem awaitsDuty_of_waitOver {s : State} (hp : s.phase = .wait) (ht : s.timer = 0) : awaitsDuty s = false := by
  simp [awaitsDuty, hp, ht]

/-- Settles O35: each move of the schedule that lets the party move runs the instruction of the current word. -/
theorem stepRunsTheDecodedInstruction : Obligations.StepRunsTheDecodedInstruction := by
  refine ⟨fun s w rest hp hr => ⟨fun h => ?_, fun moves h => ?_, fun moves h => ?_⟩,
    fun s hp => ⟨fun h => ?_, fun moves h => ?_, fun moves h hw ht => ?_⟩, fun s nbits w => ?_⟩
  · rw [step_of_nil h, runParty_presented hp hr]
  · rw [step_of_proceed h]
    exact runParty_presented hp hr
  · rw [step_of_stall h (awaitsDuty_of_idle hp), runParty_presented hp hr]
  · rw [step_of_nil h, runParty_busy hp]
  · rw [step_of_proceed h]
    exact runParty_busy hp
  · rw [step_of_stall h (awaitsDuty_of_waitOver hw ht), runParty_busy hp]
  · exact (step_of_nil rfl).trans (runParty_presented rfl rfl)

/-- Settles O36: with no request presented the party whose turn it is does nothing. -/
theorem idleBlockIsSilent : Obligations.IdleBlockIsSilent := by
  refine fun s hp hr => ⟨fun h => ?_, fun moves h => ?_, fun moves h => ?_⟩
  · rw [step_of_nil h, runParty_silent hp hr]
  · rw [step_of_proceed h]
    exact runParty_silent hp hr
  · rw [step_of_stall h (awaitsDuty_of_idle hp), runParty_silent hp hr]

/-- Settles O37. -/
theorem holdingChangesNothing : Obligations.HoldingChangesNothing :=
  fun _ _ h => step_of_hold h

/-! ## The state that reset leaves -/

/-- Reset is the reset of the block, and what a cut write leaves outside is on the line and the diagnostic stream alone
(R222). -/
theorem resetEvent_form (a : Byte) (d : Bool) (c : Option (Fin 8)) (s : State) :
    ∃ line echoes, resetEvent a d c s = { resetBlock a d s with line := line, echoes := echoes } := by
  cases c with
  | none => exact ⟨s.line, s.echoes, rfl⟩
  | some sent =>
    obtain ⟨line, echoes, e⟩ := cutWrite_frame sent s
    exact ⟨line, echoes, by rw [resetEvent, e]; rfl⟩

section
variable (a : Byte) (d : Bool) (c : Option (Fin 8)) (s : State)

@[simp] theorem resetEvent_addr : (resetEvent a d c s).addr = a := by
  obtain ⟨_, _, e⟩ := resetEvent_form a d c s
  rw [e, resetBlock_addr]
@[simp] theorem resetEvent_cfgAddr : (resetEvent a d c s).cfgAddr = a := by
  obtain ⟨_, _, e⟩ := resetEvent_form a d c s
  rw [e, resetBlock_cfgAddr]
@[simp] theorem resetEvent_cfgDebug : (resetEvent a d c s).cfgDebug = d := by
  obtain ⟨_, _, e⟩ := resetEvent_form a d c s
  rw [e, resetBlock_cfgDebug]
@[simp] theorem resetEvent_phase : (resetEvent a d c s).phase = .idle := by
  obtain ⟨_, _, e⟩ := resetEvent_form a d c s
  rw [e, resetBlock_phase]
@[simp] theorem resetEvent_requests : (resetEvent a d c s).requests = s.requests := by
  obtain ⟨_, _, e⟩ := resetEvent_form a d c s
  rw [e, resetBlock_requests]
@[simp] theorem resetEvent_schedule : (resetEvent a d c s).schedule = s.schedule := by
  obtain ⟨_, _, e⟩ := resetEvent_form a d c s
  rw [e, resetBlock_schedule]
@[simp] theorem resetEvent_writes : (resetEvent a d c s).writes = s.writes := by
  obtain ⟨_, _, e⟩ := resetEvent_form a d c s
  rw [e, resetBlock_writes]
@[simp] theorem resetEvent_responses : (resetEvent a d c s).responses = s.responses := by
  obtain ⟨_, _, e⟩ := resetEvent_form a d c s
  rw [e, resetBlock_responses]

end

/-! ## The line after a reset -/

/-- Where nothing is being written a reset leaves the line alone (R222). -/
theorem resetEvent_line_of_not_writing (a : Byte) (d : Bool) (c : Option (Fin 8)) {s : State}
    (h1 : s.phase ≠ .issue1) (h2 : s.phase ≠ .issue2) : (resetEvent a d c s).line = s.line := by
  cases c with
  | none => rfl
  | some sent =>
    have hcut : cutWrite sent s = s := by
      cases hp : s.phase with
      | issue1 => exact absurd hp h1
      | issue2 => exact absurd hp h2
      | _ => simp [cutWrite, hp]
    rw [resetEvent, hcut, resetBlock_line]

/-- Where the step would have made a write, a reset leaves some first bytes of that write's frame on the line (R222),
whatever moves come after it. -/
theorem resetEvent_line_of_writing (a : Byte) (d : Bool) (c : Option (Fin 8)) (moves : List EnvMove) {s u : State}
    {x : SinkWrite} (hp : s.phase = .issue1 ∨ s.phase = .issue2) (hu : exec (decode s.reqL) s = .next u)
    (hx : u.writes = s.writes ++ [x]) :
    ∃ n ≤ 7, (resetEvent a d c { s with schedule := moves }).line = s.line ++ (frameBytes x.frame).take n := by
  cases c with
  | none => exact ⟨0, by decide, (List.append_nil _).symm⟩
  | some sent =>
    rcases cutWrite_form sent s.phase s.reqL with h | ⟨_, p, h⟩
    · exact absurd hu ((h s rfl rfl).2 u hp)
    · obtain ⟨_, hwrites⟩ := h s rfl rfl
      obtain ⟨hcut, _⟩ := h { s with schedule := moves } rfl rfl
      have hframe : x.frame = encodeFrame s.addr p := by
        have hlast := List.append_cancel_left ((hwrites u hu).symm.trans hx)
        rw [← List.singleton_inj.1 hlast]
      refine ⟨sent, Nat.le_of_lt_succ sent.isLt, ?_⟩
      rw [resetEvent, resetBlock_line, hcut, hframe]

/-- Settles O39: the step is the reset event, in the phase and with the latched word of before. -/
theorem resetAbandonsTheOperation : Obligations.ResetAbandonsTheOperation := by
  intro s a d c moves hs
  refine ⟨_, step_of_reset hs, resetEvent_phase _ _ _ _, resetEvent_addr _ _ _ _, resetEvent_cfgAddr _ _ _ _,
    resetEvent_cfgDebug _ _ _ _, resetEvent_schedule _ _ _ _, resetEvent_responses _ _ _ _,
    resetEvent_writes _ _ _ _, resetEvent_requests _ _ _ _, fun h1 h2 => ?_, fun hp u x hu hx => ?_⟩
  · exact resetEvent_line_of_not_writing a d c (s := { s with schedule := moves }) h1 h2
  · exact resetEvent_line_of_writing a d c moves hp hu hx

/-! ## Hangs -/

/-- A hang lasts for any number of steps (R235). -/
theorem steps_stalled {s : State} {rest : List EnvMove} (hs : s.schedule = .stall :: rest) (hd : awaitsDuty s = true)
    (k : Nat) : steps k s = .next s := by
  induction k with
  | zero => rfl
  | succ k ih => rw [steps_succ k (step_stalled hs hd), ih]

/-- Holds are used up one a step. -/
theorem steps_holds (n : Nat) (moves : List EnvMove) :
    ∀ s : State, s.schedule = List.replicate n .hold ++ moves → steps n s = .next { s with schedule := moves } := by
  induction n with
  | zero => rintro s rfl; rfl
  | succ n ih =>
    intro s hs
    rw [steps_succ n (step_of_hold (moves := List.replicate n .hold ++ moves) hs)]
    exact ih _ rfl

theorem steps_add {n : Nat} (k : Nat) : ∀ {s t : State}, steps n s = .next t → steps (n + k) s = steps k t := by
  induction n with
  | zero =>
    intro s t h
    cases h
    rw [Nat.zero_add]
  | succ n ih =>
    intro s t h
    cases hs : step s with
    | next u =>
      rw [steps_succ n hs] at h
      rw [Nat.add_right_comm, steps_succ (n + k) hs, ih h]
    | fault r => simp [steps, hs] at h
    | refused r => simp [steps, hs] at h

/-- Settles O38: a stall in a phase that awaits a duty lasts, and a reset behind any holds is reached. -/
theorem hangsLastUntilReset : Obligations.HangsLastUntilReset := by
  refine ⟨fun s moves k hs hp => steps_stalled hs ((awaitsDuty_iff s).2 ?_) k, fun s n a d c moves hs => ?_⟩
  · rcases hp with h | h | h | h
    · exact .inl h
    · exact .inr (.inr (.inl h))
    · exact .inr (.inl h)
    · exact .inr (.inr (.inr h))
  · have hheld := steps_holds n (.reset a d c :: moves) s hs
    refine ⟨hheld, resetEvent a d c { s with schedule := moves }, ?_, resetEvent_phase _ _ _ _,
      resetEvent_addr _ _ _ _, resetEvent_schedule _ _ _ _, resetEvent_responses _ _ _ _⟩
    rw [steps_add 1 hheld, steps_succ 0 (step_of_reset rfl)]
    rfl

end Sys2Proof.Machine
end

section
/-! PROOFS. Failures: the steps that enter RESPOND, and the cause of each status (spec/60_exceptions.md R185 to R189).
-/

namespace Sys2Proof.Machine

/-! ## The two outcomes of the ISSUE1 step -/

/-- The ISSUE1 step of an operation with a frame ends in WAIT or in RESPOND, and goes to WAIT only with a duration. -/
theorem wroteAndTimed_cases (s : State) (f : Frame) (dur : Duration) :
    (dur ≠ 0 ∧ s.wroteAndTimed f dur =
      { s.wrote f with timer := dur, motionErr := decide (replyAnswer (nextReply s) = .err), phase := .wait }) ∨
      s.wroteAndTimed f dur = s.wroteAndResponded f := by
  unfold State.wroteAndTimed
  split
  · next h => exact .inl ⟨h.1, rfl⟩
  · exact .inr rfl

/-! ## The step of an operation without a frame -/

/-- The status with which an operation without a frame answers (R89, R117, R118, R146, R171, R173). -/
def answerStatus : Instr → Status
  | .sendCommand _ _ => .malformedCommand
  | .reservedF => .illegalOp
  | _ => .ok

theorem exec_noFrame_statusL {i : Instr} (hi : i.issuesFrame = false) {s t : State} {w : ReqWord}
    {rest : List ReqWord} (hp : s.phase = .idle) (hr : s.requests = w :: rest) (e : exec i s = .next t) :
    t.statusL = answerStatus i := by
  cases i with
  | panTilt dir dur =>
    cases dir with
    | unknown token =>
      rw [exec_panTilt_unknown, immediate_respond hp hr] at e
      cases e
      rfl
    | _ => cases hi
  | sendCommand plen p =>
    have hlen : plen ≠ 4 := by simpa [Instr.issuesFrame] using hi
    rw [exec_sendCommand_malformed hlen, immediate_raise hp hr] at e
    cases e
    rfl
  | setAddress a =>
    rw [exec_setAddress, immediate_presented hp hr] at e
    cases e
    rfl
  | validate f =>
    rw [exec_validate, immediate_respond hp hr] at e
    cases e
    rfl
  | encode ea p =>
    rw [exec_encode, immediate_respond hp hr] at e
    cases e
    rfl
  | reservedF =>
    cases e.symm.trans (reservedOperation.2.1 s w rest hp hr)
    rfl
  | _ => cases hi

/-- An operation without a frame answers MALFORMED_COMMAND only as a SEND_COMMAND of a length other than 4 (R186). -/
theorem answerStatus_eq_malformed_iff {i : Instr} (hi : i.issuesFrame = false) :
    answerStatus i = .malformedCommand ↔ ∃ plen p, i = .sendCommand plen p ∧ plen ≠ 4 := by
  cases i with
  | sendCommand plen p =>
    have hlen : plen ≠ 4 := by simpa [Instr.issuesFrame] using hi
    exact ⟨fun _ => ⟨plen, p, rfl, hlen⟩, fun _ => rfl⟩
  | _ => simp [answerStatus]

theorem answerStatus_eq_illegalOp_iff (i : Instr) : answerStatus i = .illegalOp ↔ i = .reservedF := by
  cases i <;> simp [answerStatus]

/-! ## The steps that enter RESPOND -/

/-- RESPOND is entered by the accepting step of an operation without a frame, or with the outcome of a write. -/
theorem exec_enters_respond {i : Instr} {s t : State} (e : exec i s = .next t) (hs : s.phase ≠ .respond)
    (ht : t.phase = .respond) :
    (∃ w rest status flag data addr, s.phase = .idle ∧ s.requests = w :: rest ∧ i.issuesFrame = false ∧
        t = { s.answered w rest status flag data with addr := Option.getD addr s.addr } ∧
        status ≠ .sinkIoError ∧ (status ≠ .ok → flag = false ∧ data = 0 ∧ addr = none)) ∨
      (∃ f, s.phase = .issue1 ∧ t = s.wroteAndResponded f) ∨
      (s.phase = .issue2 ∧ t = issueStop s) := by
  rcases exec_cases e with ⟨_, _, rfl⟩ | ⟨_, _, _, _, _, rfl⟩ |
    ⟨w, rest, status, flag, data, addr, hp, hr, hi, et, hsink, hfail, _⟩ | ⟨p, hp, _, rfl⟩ | ⟨hp, rfl⟩ | h | ⟨hp, _⟩
  · exact absurd ht hs
  · cases ht
  · exact .inl ⟨w, rest, status, flag, data, addr, hp, hr, hi, et, hsink, hfail⟩
  · rcases wroteAndTimed_cases s (encodeFrame s.addr p) i.duration with ⟨_, ew⟩ | ew
    · rw [ew] at ht
      cases ht
    · exact .inr (.inl ⟨_, hp, ew⟩)
  · rcases waitStep_cases s with ⟨_, ew⟩ | ⟨_, ew⟩ <;> rw [ew] at ht
    · exact absurd ht hs
    · cases ht
  · exact .inr (.inr h)
  · exact absurd hp hs

/-- Settles O32: a failure without a write has ADDR left alone, and the outcome of a write is latched with FLAG and DATA
0. -/
theorem failureChangesNoArchitecturalState : Obligations.FailureChangesNoArchitecturalState := by
  intro i s t e hs ht hfail
  rcases exec_enters_respond e hs ht with ⟨_, _, _, _, _, _, _, _, _, rfl, _, hclean⟩ | ⟨f, _, rfl⟩ | ⟨_, rfl⟩
  · obtain ⟨hflag, hdata, haddr⟩ := hclean hfail
    exact ⟨by rw [haddr]; rfl, rfl, rfl, rfl, hflag, hdata, rfl⟩
  · exact ⟨rfl, rfl, rfl, rfl, rfl, rfl, rfl⟩
  · rw [issueStop_eq]
    exact ⟨rfl, rfl, rfl, rfl, rfl, rfl, rfl⟩

/-- One write more than before is a failed one exactly when its answer is `err`. -/
theorem exists_failed_write_iff {l m : List SinkWrite} {f : Frame} {a : SinkAnswer} (h : m = l ++ [⟨f, a⟩]) :
    (∃ g, m = l ++ [⟨g, .err⟩]) ↔ a = .err := by
  simp [h]

/-- Settles O33: no answer without a write has that status, and the status of a write is its answer's. -/
theorem sinkErrorComesFromAFailedWrite : Obligations.SinkErrorComesFromAFailedWrite := by
  intro i s t e hc hs ht
  rcases exec_enters_respond e hs ht with ⟨_, _, _, _, _, _, _, _, _, rfl, hsink, _⟩ | ⟨f, _, rfl⟩ | ⟨_, rfl⟩
  · exact iff_of_false hsink fun ⟨f, hw⟩ => by simp [State.answered] at hw
  · exact (status_eq_sinkIoError_iff _).trans (exists_failed_write_iff rfl).symm
  · rw [exists_failed_write_iff (issueStop_writes s), issueStop_statusL_eq_sinkIoError_iff]
    simp [hc]

/-- The two statuses that a write can be reported with (R188). -/
theorem status_eq_ok_or_sinkIoError (a : SinkAnswer) : a.status = .ok ∨ a.status = .sinkIoError := by
  cases a
  · exact .inl rfl
  · exact .inr rfl

theorem issueStop_statusL_eq_ok_or_sinkIoError (s : State) :
    (issueStop s).statusL = .ok ∨ (issueStop s).statusL = .sinkIoError := by
  rcases issueStop_cases s with ⟨_, _, e⟩ | ⟨_, e⟩ <;> rw [e]
  · exact .inl rfl
  · exact .inr rfl

/-- Settles O34: the accepting step of an operation without a frame answers with the status of its kind and writes
nothing; the outcome of a write is neither of the two. -/
theorem malformedAndIllegalHaveOneCause : Obligations.MalformedAndIllegalHaveOneCause := by
  intro i s t e hs ht
  have of_write (hp : s.phase ≠ .idle) (hst : t.statusL = .ok ∨ t.statusL = .sinkIoError) :
      (t.statusL = .malformedCommand ↔ s.phase = .idle ∧ ∃ plen p, i = .sendCommand plen p ∧ plen ≠ 4) ∧
      (t.statusL = .illegalOp ↔ s.phase = .idle ∧ i = .reservedF) ∧
      (t.statusL = .malformedCommand ∨ t.statusL = .illegalOp →
        t.writes = s.writes ∧ t.line = s.line ∧ t.echoes = s.echoes) := by
    rcases hst with h | h <;> simp [h, hp]
  rcases exec_enters_respond e hs ht with ⟨_, _, _, _, _, _, hp, hr, hi, et, _⟩ | ⟨f, hp, rfl⟩ | ⟨hp, rfl⟩
  · rw [exec_noFrame_statusL hi hp hr e, answerStatus_eq_malformed_iff hi, answerStatus_eq_illegalOp_iff]
    refine ⟨by simp [hp], by simp [hp], fun _ => ?_⟩
    rw [et]
    exact ⟨rfl, rfl, rfl⟩
  · exact of_write (by simp [hp]) (status_eq_ok_or_sinkIoError _)
  · exact of_write (by simp [hp]) (issueStop_statusL_eq_ok_or_sinkIoError s)

end Sys2Proof.Machine
end

section
/-! PROOFS. What one step can do, whatever the schedule, and what every step keeps: the invariant, the phases, ADDR, the
configuration, the writes, the responses and the requests (spec/10_state.md R20 to R26, spec/30_encoding.md R87, R95,
spec/43_send_command_and_address.md R172). -/

namespace Sys2Proof.Machine

/-! ## One step -/

/-- What a step other than a reset makes of a state whose schedule has been moved on: one case per step of the
sequencer, and `rests` for a hold, a hang and a silent block. -/
inductive Moved (s : State) : State → Prop
  | rests : Moved s s
  | accepts {w : ReqWord} {rest : List ReqWord} (hp : s.phase = .idle) (hr : s.requests = w :: rest)
      (hi : (decode w).issuesFrame = true) : Moved s (s.accepted w rest)
  | answers {w : ReqWord} {rest : List ReqWord} {status : Status} {flag : Bool} {data : FrameWord} {addr : Option Byte}
      (hp : s.phase = .idle) (hr : s.requests = w :: rest)
      (hfail : status ≠ .ok → flag = false ∧ data = 0 ∧ addr = none)
      (haddr : ∀ a, addr = some a → decode w = .setAddress a)
      (hflag : flag = true → ∃ f, decode w = .validate f) (hdata : data ≠ 0 → ∃ ea p, decode w = .encode ea p) :
      Moved s { s.answered w rest status flag data with addr := addr.getD s.addr }
  | issues (p : Payload) (hp : s.phase = .issue1) (hi : (decode s.reqL).issuesFrame = true) :
      Moved s (s.wroteAndTimed (encodeFrame s.addr p) (decode s.reqL).duration)
  | waits (hp : s.phase = .wait) : Moved s (waitStep s)
  | stops (hp : s.phase = .issue2) : Moved s (issueStop s)
  | delivers (hp : s.phase = .respond) : Moved s (takeResponse s)

/-- In IDLE the instruction of the presented word is accepted, or answers at once. -/
theorem exec_idle_moved {s t : State} {w : ReqWord} {rest : List ReqWord} (hp : s.phase = .idle)
    (hr : s.requests = w :: rest) (e : exec (decode w) s = .next t) : Moved s t := by
  rcases exec_cases e with ⟨_, h, _⟩ | ⟨_, _, _, hr', hi, rfl⟩ |
    ⟨_, _, _, _, _, _, _, hr', _, rfl, _, hfail, haddr, hflag, hdata⟩ | ⟨_, h, _⟩ | ⟨h, _⟩ | ⟨h, _⟩ | ⟨h, _⟩
  case inl => cases hr.symm.trans h
  case inr.inl =>
    cases hr.symm.trans hr'
    exact .accepts hp hr hi
  case inr.inr.inl =>
    cases hr.symm.trans hr'
    exact .answers hp hr hfail haddr hflag hdata
  all_goals exact absurd (hp.symm.trans h) (by decide)

/-- In every other phase the instruction of the latched word makes the step of that phase. -/
theorem exec_busy_moved {s t : State} (hp : s.phase ≠ .idle) (e : exec (decode s.reqL) s = .next t) : Moved s t := by
  rcases exec_cases e with ⟨h, _⟩ | ⟨_, _, h, _⟩ | ⟨_, _, _, _, _, _, h, _⟩ | ⟨p, h, hi, rfl⟩ | ⟨h, rfl⟩ | ⟨h, rfl⟩ |
    ⟨h, rfl⟩
  case inr.inr.inr.inl => exact .issues p h hi
  case inr.inr.inr.inr.inl => exact .waits h
  case inr.inr.inr.inr.inr.inl => exact .stops h
  case inr.inr.inr.inr.inr.inr => exact .delivers h
  all_goals exact absurd h hp

/-- The party whose turn it is makes one of these steps. -/
theorem runParty_moved {s t : State} (e : runParty s = .next t) : Moved s t := by
  rcases runParty_cases s with ⟨_, _, h⟩ | ⟨w, rest, hp, hr, h⟩ | ⟨hp, h⟩ <;> rw [h] at e
  · cases e
    exact .rests
  · exact exec_idle_moved hp hr e
  · exact exec_busy_moved hp e

/-- A step is a reset, or one of the moves above with the schedule as it was or one move shorter. -/
theorem step_moved_or_reset {s t : State} (e : step s = .next t) :
    (∃ moves, (moves = s.schedule ∨ moves = s.schedule.tail) ∧ Moved { s with schedule := moves } t) ∨
      ∃ a d c moves, s.schedule = .reset a d c :: moves ∧ t = resetEvent a d c { s with schedule := moves } := by
  rcases step_cases s with ⟨_, h⟩ | ⟨moves, hs, h⟩ | ⟨moves, hs, h⟩ | ⟨a, d, c, moves, hs, h⟩ |
    ⟨_, _, ⟨_, h⟩ | ⟨_, h⟩⟩ <;> rw [h] at e
  · exact .inl ⟨s.schedule, .inl rfl, runParty_moved e⟩
  · exact .inl ⟨moves, .inr (by rw [hs, List.tail_cons]), runParty_moved e⟩
  · cases e
    exact .inl ⟨moves, .inr (by rw [hs, List.tail_cons]), .rests⟩
  · cases e
    exact .inr ⟨a, d, c, moves, hs, rfl⟩
  · cases e
    exact .inl ⟨s.schedule, .inl rfl, .rests⟩
  · exact .inl ⟨s.schedule, .inl rfl, runParty_moved e⟩

theorem step_moved {s t : State} (hn : s.NoResetNow) (e : step s = .next t) :
    ∃ moves, (moves = s.schedule ∨ moves = s.schedule.tail) ∧ Moved { s with schedule := moves } t := by
  rcases step_moved_or_reset e with h | ⟨a, d, c, moves, hs, _⟩
  · exact h
  · exact absurd hs (hn a d c moves)

/-! ## What the steps with several outcomes leave alone -/

section
variable (s : State) (f : Frame) (dur : Duration)

@[simp] theorem wroteAndTimed_addr : (s.wroteAndTimed f dur).addr = s.addr := by
  rcases wroteAndTimed_cases s f dur with ⟨_, e⟩ | e <;> rw [e] <;> rfl
@[simp] theorem wroteAndTimed_cfgAddr : (s.wroteAndTimed f dur).cfgAddr = s.cfgAddr := by
  rcases wroteAndTimed_cases s f dur with ⟨_, e⟩ | e <;> rw [e] <;> rfl
@[simp] theorem wroteAndTimed_cfgDebug : (s.wroteAndTimed f dur).cfgDebug = s.cfgDebug := by
  rcases wroteAndTimed_cases s f dur with ⟨_, e⟩ | e <;> rw [e] <;> rfl
@[simp] theorem wroteAndTimed_cfgTimedAbort : (s.wroteAndTimed f dur).cfgTimedAbort = s.cfgTimedAbort := by
  rcases wroteAndTimed_cases s f dur with ⟨_, e⟩ | e <;> rw [e] <;> rfl
@[simp] theorem wroteAndTimed_reqL : (s.wroteAndTimed f dur).reqL = s.reqL := by
  rcases wroteAndTimed_cases s f dur with ⟨_, e⟩ | e <;> rw [e] <;> rfl
@[simp] theorem wroteAndTimed_requests : (s.wroteAndTimed f dur).requests = s.requests := by
  rcases wroteAndTimed_cases s f dur with ⟨_, e⟩ | e <;> rw [e] <;> rfl
@[simp] theorem wroteAndTimed_responses : (s.wroteAndTimed f dur).responses = s.responses := by
  rcases wroteAndTimed_cases s f dur with ⟨_, e⟩ | e <;> rw [e] <;> rfl
@[simp] theorem wroteAndTimed_line :
    (s.wroteAndTimed f dur).line = s.line ++ (frameBytes f).take (replySent (nextReply s)) := by
  rcases wroteAndTimed_cases s f dur with ⟨_, e⟩ | e <;> rw [e] <;> rfl

@[simp] theorem waitStep_addr : (waitStep s).addr = s.addr := by
  rcases waitStep_cases s with ⟨_, e⟩ | ⟨_, e⟩ <;> rw [e]
@[simp] theorem waitStep_cfgAddr : (waitStep s).cfgAddr = s.cfgAddr := by
  rcases waitStep_cases s with ⟨_, e⟩ | ⟨_, e⟩ <;> rw [e]
@[simp] theorem waitStep_cfgDebug : (waitStep s).cfgDebug = s.cfgDebug := by
  rcases waitStep_cases s with ⟨_, e⟩ | ⟨_, e⟩ <;> rw [e]
@[simp] theorem waitStep_cfgTimedAbort : (waitStep s).cfgTimedAbort = s.cfgTimedAbort := by
  rcases waitStep_cases s with ⟨_, e⟩ | ⟨_, e⟩ <;> rw [e]
@[simp] theorem waitStep_reqL : (waitStep s).reqL = s.reqL := by
  rcases waitStep_cases s with ⟨_, e⟩ | ⟨_, e⟩ <;> rw [e]
@[simp] theorem waitStep_writes : (waitStep s).writes = s.writes := by
  rcases waitStep_cases s with ⟨_, e⟩ | ⟨_, e⟩ <;> rw [e]
@[simp] theorem waitStep_responses : (waitStep s).responses = s.responses := by
  rcases waitStep_cases s with ⟨_, e⟩ | ⟨_, e⟩ <;> rw [e]
@[simp] theorem waitStep_line : (waitStep s).line = s.line := by
  rcases waitStep_cases s with ⟨_, e⟩ | ⟨_, e⟩ <;> rw [e]

@[simp] theorem issueStop_cfgAddr : (issueStop s).cfgAddr = s.cfgAddr := by rw [issueStop_eq]; rfl
@[simp] theorem issueStop_cfgDebug : (issueStop s).cfgDebug = s.cfgDebug := by rw [issueStop_eq]; rfl
@[simp] theorem issueStop_cfgTimedAbort : (issueStop s).cfgTimedAbort = s.cfgTimedAbort := by rw [issueStop_eq]; rfl
@[simp] theorem issueStop_reqL : (issueStop s).reqL = s.reqL := by rw [issueStop_eq]; rfl
@[simp] theorem issueStop_requests : (issueStop s).requests = s.requests := by rw [issueStop_eq]; rfl
@[simp] theorem issueStop_responses : (issueStop s).responses = s.responses := by rw [issueStop_eq]; rfl
@[simp] theorem issueStop_line :
    (issueStop s).line = s.line ++ (frameBytes (stopFrame s.addr)).take (replySent (nextReply s)) := by
  rw [issueStop_eq]; rfl

end

/-! ## The invariant -/

section
variable {t : State} (hw : ∀ w ∈ t.writes, validateFrame w.frame = true) (hc : ∀ r ∈ t.responses, r.Clean)
include hw hc

/-- In IDLE the invariant asks of the past alone. -/
theorem inv_of_idle (hp : t.phase = .idle) : t.Inv :=
  ⟨by simp [hp], by simp [hp], by simp [hp], by simp [hp], by simp [hp], by simp [hp], by simp [hp], hw, hc⟩

theorem inv_of_issue1 (hp : t.phase = .issue1) (hi : (decode t.reqL).issuesFrame = true) : t.Inv :=
  ⟨by simp [hi], by simp [hp], by simp [hp], by simp [hp], by simp [hp], by simp [hp], by simp [hp], hw, hc⟩

theorem inv_of_wait (hp : t.phase = .wait) (hi : (decode t.reqL).issuesFrame = true)
    (hd : (decode t.reqL).duration ≠ 0) (ht : t.timer ≤ (decode t.reqL).duration) : t.Inv :=
  ⟨by simp [hp], fun _ => ⟨hi, hd⟩, fun _ => ht, by simp [hp], by simp [hp], by simp [hp], by simp [hp], hw, hc⟩

theorem inv_of_issue2 (hp : t.phase = .issue2) (hi : (decode t.reqL).issuesFrame = true)
    (hd : (decode t.reqL).duration ≠ 0) : t.Inv :=
  ⟨by simp [hp], by simp [hp], by simp [hp], fun _ => ⟨hi, hd⟩, by simp [hp], by simp [hp], by simp [hp], hw, hc⟩

theorem inv_of_respond (hp : t.phase = .respond) (hclean : Response.Clean ⟨t.statusL, t.flagL, t.dataL⟩)
    (hflag : t.flagL = true → ∃ f, decode t.reqL = .validate f)
    (hdata : t.dataL ≠ 0 → ∃ a p, decode t.reqL = .encode a p) : t.Inv :=
  ⟨by simp [hp], by simp [hp], by simp [hp], by simp [hp], fun _ => hclean, fun _ => hflag, fun _ => hdata, hw, hc⟩

/-- A response with FLAG and DATA 0 is allowed to every operation and every status. -/
theorem inv_of_respond_zero (hp : t.phase = .respond) (hflag : t.flagL = false) (hdata : t.dataL = 0) : t.Inv :=
  inv_of_respond hw hc hp (fun _ => ⟨hflag, hdata⟩) (by simp [hflag]) (by simp [hdata])

end

/-- One more valid frame keeps the writes valid. -/
theorem writes_valid_append {l : List SinkWrite} (h : ∀ w ∈ l, validateFrame w.frame = true) {f : Frame}
    (hf : validateFrame f = true) (a : SinkAnswer) : ∀ w ∈ l ++ [⟨f, a⟩], validateFrame w.frame = true := by
  intro w hw
  rcases List.mem_append.1 hw with hl | hl
  · exact h w hl
  · rw [List.mem_singleton.1 hl]
    exact hf

theorem validateFrame_stopFrame (a : Byte) : validateFrame (stopFrame a) = true :=
  encodeFrame_stopPayload a ▸ validateFrame_encodeFrame a stopPayload

/-- The ISSUE1 step writes an encoded frame, and its wait is one of the latched operation. -/
theorem inv_wroteAndTimed {s : State} (hs : s.Inv) (p : Payload) (hi : (decode s.reqL).issuesFrame = true) :
    (s.wroteAndTimed (encodeFrame s.addr p) (decode s.reqL).duration).Inv := by
  have hw := writes_valid_append hs.writes_valid (validateFrame_encodeFrame s.addr p) (replyAnswer (nextReply s))
  rcases wroteAndTimed_cases s (encodeFrame s.addr p) (decode s.reqL).duration with ⟨hd, e⟩ | e <;> rw [e]
  · exact inv_of_wait hw hs.responses_clean rfl hi hd (BitVec.le_refl _)
  · exact inv_of_respond_zero hw hs.responses_clean rfl rfl rfl

/-- A tick lowers TIMER, and the step to ISSUE2 is of the operation that waited. -/
theorem inv_waitStep {s : State} (hs : s.Inv) (hp : s.phase = .wait) : (waitStep s).Inv := by
  obtain ⟨hi, hd⟩ := hs.wait_timed hp
  rcases waitStep_cases s with ⟨ht, e⟩ | ⟨_, e⟩ <;> rw [e]
  · refine inv_of_wait hs.writes_valid hs.responses_clean hp hi hd ?_
    have := hs.wait_timer hp
    bv_omega
  · exact inv_of_issue2 hs.writes_valid hs.responses_clean rfl hi hd

theorem inv_issueStop {s : State} (hs : s.Inv) : (issueStop s).Inv := by
  refine inv_of_respond_zero ?_ ?_ (issueStop_phase s) (issueStop_flagL s) (issueStop_dataL s)
  · rw [issueStop_writes]
    exact writes_valid_append hs.writes_valid (validateFrame_stopFrame s.addr) _
  · rw [issueStop_responses]
    exact hs.responses_clean

/-- The response delivered is the latched one, which the invariant has clean. -/
theorem inv_takeResponse {s : State} (hs : s.Inv) (hp : s.phase = .respond) : (takeResponse s).Inv := by
  refine inv_of_idle hs.writes_valid (fun r hr => ?_) rfl
  rcases List.mem_append.1 hr with h | h
  · exact hs.responses_clean r h
  · rw [List.mem_singleton.1 h]
    exact hs.respond_clean hp

theorem Moved.inv {s t : State} (m : Moved s t) (hs : s.Inv) : t.Inv := by
  cases m with
  | rests => exact hs
  | accepts hp hr hi => exact inv_of_issue1 hs.writes_valid hs.responses_clean rfl hi
  | answers hp hr hfail haddr hflag hdata =>
    refine inv_of_respond hs.writes_valid hs.responses_clean rfl (fun hne => ?_) hflag hdata
    obtain ⟨hf, hd, _⟩ := hfail hne
    exact ⟨hf, hd⟩
  | issues p hp hi => exact inv_wroteAndTimed hs p hi
  | waits hp => exact inv_waitStep hs hp
  | stops hp => exact inv_issueStop hs
  | delivers hp => exact inv_takeResponse hs hp

/-- The invariant does not ask of the schedule. -/
theorem inv_with_schedule {s : State} (hs : s.Inv) (moves : List EnvMove) :
    ({ s with schedule := moves } : State).Inv := by
  obtain ⟨h1, h2, h3, h4, h5, h6, h7, h8, h9⟩ := hs
  exact ⟨h1, h2, h3, h4, h5, h6, h7, h8, h9⟩

/-- Settles O42: a reset leads to IDLE with the past as it was, and each other step keeps the invariant by its own
lemma. -/
theorem everyStepKeepsTheInvariant : Obligations.EveryStepKeepsTheInvariant := by
  intro s t hs e
  rcases step_moved_or_reset e with ⟨moves, _, m⟩ | ⟨a, d, c, moves, _, rfl⟩
  · exact m.inv (inv_with_schedule hs moves)
  · exact inv_of_idle (by simpa using hs.writes_valid) (by simpa using hs.responses_clean) (resetEvent_phase a d c _)

/-- Settles O41: nothing has been written or delivered, and the phase is IDLE. -/
theorem invariantHoldsAtReset : Obligations.InvariantHoldsAtReset := by
  have hreset : ∀ (a : Byte) (d : Bool), (State.resetWith a d).Inv := fun a d =>
    inv_of_idle (by simp) (by simp) (resetWith_phase a d)
  exact ⟨hreset _ _, hreset⟩

/-- The party whose turn it is can move from every state of the invariant: only an operation with a frame is in ISSUE1.
-/
theorem runParty_next {s : State} (hs : s.Inv) : ∃ t, runParty s = .next t := by
  rcases runParty_cases s with ⟨_, _, h⟩ | ⟨w, _, hp, _, h⟩ | ⟨_, h⟩ <;> rw [h]
  · exact ⟨s, rfl⟩
  · exact exec_next (decode w) s (by simp [hp])
  · exact exec_next (decode s.reqL) s hs.issue1_frame

/-- Settles O43: every move of the schedule has a next state, and so has the party whose turn it is. -/
theorem invariantStatesNeverStop : Obligations.InvariantStatesNeverStop := by
  intro s hs
  rcases step_cases s with ⟨_, h⟩ | ⟨moves, _, h⟩ | ⟨_, _, h⟩ | ⟨_, _, _, _, _, h⟩ | ⟨_, _, ⟨_, h⟩ | ⟨_, h⟩⟩ <;> rw [h]
  · exact runParty_next hs
  · exact runParty_next (inv_with_schedule hs moves)
  · exact ⟨_, rfl⟩
  · exact ⟨_, rfl⟩
  · exact ⟨_, rfl⟩
  · exact runParty_next hs

/-! ## The phases -/

theorem Moved.phase {s t : State} (m : Moved s t) :
    t.phase = s.phase ∨
    (s.phase = .idle ∧ (t.phase = .issue1 ∨ t.phase = .respond)) ∨
    (s.phase = .issue1 ∧ (t.phase = .wait ∨ t.phase = .respond)) ∨
    (s.phase = .wait ∧ s.timer = 0 ∧ t.phase = .issue2) ∨
    (s.phase = .issue2 ∧ t.phase = .respond) ∨
    (s.phase = .respond ∧ t.phase = .idle) := by
  cases m with
  | rests => exact .inl rfl
  | accepts hp hr hi => exact .inr (.inl ⟨hp, .inl rfl⟩)
  | answers hp hr hfail haddr hflag hdata => exact .inr (.inl ⟨hp, .inr rfl⟩)
  | issues p hp hi =>
    refine .inr (.inr (.inl ⟨hp, ?_⟩))
    rcases wroteAndTimed_cases s (encodeFrame s.addr p) (decode s.reqL).duration with ⟨_, e⟩ | e <;> rw [e]
    · exact .inl rfl
    · exact .inr rfl
  | waits hp =>
    rcases waitStep_cases s with ⟨_, e⟩ | ⟨ht, e⟩ <;> rw [e]
    · exact .inl rfl
    · exact .inr (.inr (.inr (.inl ⟨hp, ht, rfl⟩)))
  | stops hp => exact .inr (.inr (.inr (.inr (.inl ⟨hp, issueStop_phase s⟩))))
  | delivers hp => exact .inr (.inr (.inr (.inr (.inr ⟨hp, rfl⟩))))

/-- Settles O44. -/
theorem phaseTransitionsAreTheListedOnes : Obligations.PhaseTransitionsAreTheListedOnes := by
  intro s t hn e
  obtain ⟨_, _, m⟩ := step_moved hn e
  exact m.phase

/-! ## ADDR and the configuration -/

/-- Only an answer that carries an address changes ADDR, and only SET_ADDRESS has one (R21). -/
theorem Moved.addr {s t : State} (m : Moved s t) (h : t.addr ≠ s.addr) :
    s.phase = .idle ∧ ∃ w rest, s.requests = w :: rest ∧ decode w = .setAddress t.addr := by
  cases m with
  | rests => exact absurd rfl h
  | accepts hp hr hi => exact absurd rfl h
  | @answers w rest _ _ _ addr hp hr hfail haddr hflag hdata =>
    cases addr with
    | none => exact absurd rfl h
    | some a => exact ⟨hp, w, rest, hr, haddr a rfl⟩
  | issues p hp hi => exact absurd (wroteAndTimed_addr _ _ _) h
  | waits hp => exact absurd (waitStep_addr s) h
  | stops hp => exact absurd (issueStop_addr s) h
  | delivers hp => exact absurd rfl h

/-- Settles O45. -/
theorem addrIsWrittenBySetAddressOnly : Obligations.AddrIsWrittenBySetAddressOnly := by
  intro s t hn e
  obtain ⟨_, _, m⟩ := step_moved hn e
  exact m.addr

theorem Moved.configuration {s t : State} (m : Moved s t) :
    t.cfgAddr = s.cfgAddr ∧ t.cfgDebug = s.cfgDebug ∧ t.cfgTimedAbort = s.cfgTimedAbort := by
  cases m with
  | rests => exact ⟨rfl, rfl, rfl⟩
  | accepts hp hr hi => exact ⟨rfl, rfl, rfl⟩
  | answers hp hr hfail haddr hflag hdata => exact ⟨rfl, rfl, rfl⟩
  | issues p hp hi =>
    exact ⟨wroteAndTimed_cfgAddr _ _ _, wroteAndTimed_cfgDebug _ _ _, wroteAndTimed_cfgTimedAbort _ _ _⟩
  | waits hp => exact ⟨waitStep_cfgAddr s, waitStep_cfgDebug s, waitStep_cfgTimedAbort s⟩
  | stops hp => exact ⟨issueStop_cfgAddr s, issueStop_cfgDebug s, issueStop_cfgTimedAbort s⟩
  | delivers hp => exact ⟨rfl, rfl, rfl⟩

/-- Settles O46. -/
theorem configurationIsFixed : Obligations.ConfigurationIsFixed := by
  intro s t hn e
  obtain ⟨_, _, m⟩ := step_moved hn e
  exact m.configuration

/-! ## The writes -/

/-- The sink has at most the 7 bytes of a frame, and all of them when it answers `ok` (R42, R48). -/
theorem replySent_le (r : SinkReply) : replySent r ≤ 7 := by
  cases r with
  | ok => exact le_refl 7
  | err sent => exact Nat.le_of_lt_succ sent.isLt

theorem replySent_of_ok {r : SinkReply} (h : replyAnswer r = .ok) : replySent r = 7 := by
  cases r with
  | ok => rfl
  | err sent => cases h

/-- The ISSUE1 and the ISSUE2 step make one write each, and no other step makes any (R172). -/
theorem Moved.writes {s t : State} (m : Moved s t) :
    (t.writes = s.writes ∧ t.line = s.line) ∨
    ((s.phase = .issue1 ∨ s.phase = .issue2) ∧
      ∃ (p : Payload) (r : SinkReply), r = nextReply s ∧
        validateFrame (encodeFrame s.addr p) = true ∧
        t.writes = s.writes ++ [⟨encodeFrame s.addr p, replyAnswer r⟩] ∧
        ∃ n ≤ 7, t.line = s.line ++ (frameBytes (encodeFrame s.addr p)).take n ∧ (replyAnswer r = .ok → n = 7)) := by
  cases m with
  | rests => exact .inl ⟨rfl, rfl⟩
  | accepts hp hr hi => exact .inl ⟨rfl, rfl⟩
  | answers hp hr hfail haddr hflag hdata => exact .inl ⟨rfl, rfl⟩
  | issues p hp hi =>
    exact .inr ⟨.inl hp, p, nextReply s, rfl, validateFrame_encodeFrame s.addr p, wroteAndTimed_writes _ _ _,
      replySent (nextReply s), replySent_le _, wroteAndTimed_line _ _ _, replySent_of_ok⟩
  | waits hp => exact .inl ⟨waitStep_writes s, waitStep_line s⟩
  | stops hp =>
    refine .inr ⟨.inr hp, stopPayload, nextReply s, rfl, validateFrame_encodeFrame s.addr stopPayload, ?_,
      replySent (nextReply s), replySent_le _, ?_, replySent_of_ok⟩
    · rw [issueStop_writes, encodeFrame_stopPayload]
    · rw [issueStop_line, encodeFrame_stopPayload]
  | delivers hp => exact .inl ⟨rfl, rfl⟩

/-- Settles O47. -/
theorem everyWriteIsOneEncodedFrame : Obligations.EveryWriteIsOneEncodedFrame := by
  intro s t hn e
  obtain ⟨_, _, m⟩ := step_moved hn e
  exact m.writes

/-! ## Responses and requests -/

theorem Moved.responses {s t : State} (m : Moved s t) :
    t.responses = s.responses ∨
    (s.phase = .respond ∧ t.phase = .idle ∧ t.responses = s.responses ++ [⟨s.statusL, s.flagL, s.dataL⟩]) := by
  cases m with
  | rests => exact .inl rfl
  | accepts hp hr hi => exact .inl rfl
  | answers hp hr hfail haddr hflag hdata => exact .inl rfl
  | issues p hp hi => exact .inl (wroteAndTimed_responses _ _ _)
  | waits hp => exact .inl (waitStep_responses s)
  | stops hp => exact .inl (issueStop_responses s)
  | delivers hp => exact .inr ⟨hp, rfl, rfl⟩

/-- Settles O48: a reset delivers nothing. -/
theorem responsesAreDeliveredFromRespond : Obligations.ResponsesAreDeliveredFromRespond := by
  intro s t e
  rcases step_moved_or_reset e with ⟨_, _, m⟩ | ⟨a, d, c, _, _, rfl⟩
  · exact m.responses
  · exact .inl (resetEvent_responses a d c _)

/-- Only the accepting step takes a request and latches its word (R26, R95). -/
theorem Moved.requests {s t : State} (m : Moved s t) (hb : s.phase ≠ .idle) :
    t.requests = s.requests ∧ t.reqL = s.reqL := by
  cases m with
  | rests => exact ⟨rfl, rfl⟩
  | accepts hp hr hi => exact absurd hp hb
  | answers hp hr hfail haddr hflag hdata => exact absurd hp hb
  | issues p hp hi => exact ⟨wroteAndTimed_requests _ _ _, wroteAndTimed_reqL _ _ _⟩
  | waits hp => exact ⟨waitStep_requests s, waitStep_reqL s⟩
  | stops hp => exact ⟨issueStop_requests s, issueStop_reqL s⟩
  | delivers hp => exact ⟨rfl, rfl⟩

/-- Settles O49: a reset leaves the requests too, and only it the latch. -/
theorem requestsWaitWhileBusy : Obligations.RequestsWaitWhileBusy := by
  intro s t hb e
  rcases step_moved_or_reset e with ⟨_, _, m⟩ | ⟨a, d, c, moves, hs, rfl⟩
  · obtain ⟨hr, hl⟩ := m.requests hb
    exact ⟨hr, fun _ => hl⟩
  · exact ⟨resetEvent_requests a d c _, fun hn => absurd hs (hn a d c moves)⟩

end Sys2Proof.Machine
end

section
/-! PROOFS. What has no effect: a view of the state that hides some of its fields is stepped on alike whatever the
hidden fields hold (spec/10_state.md R20, R22, R25, R26, R31, spec/60_exceptions.md R201). -/

namespace Sys2Proof.Machine

/-! ## Views of the state -/

/-- The state after a write that a reset cut: the echo, and the first `sent` bytes of the frame on the line (R222). -/
def State.cut (s : State) (p : Payload) (sent : Fin 8) : State :=
  { s with
    line := s.line ++ (frameBytes (encodeFrame s.addr p)).take sent
    echoes := if s.cfgDebug then s.echoes ++ [encodeFrame s.addr p] else s.echoes }

/-- `π` hides fields that no step reads: it shows what a step reads in the phase it is in, and what it hides makes no
difference to what it shows of the outcome of each step of the sequencer. -/
structure Hides (π : State → State) : Prop where
  phase : ∀ s, (π s).phase = s.phase
  addr : ∀ s, (π s).addr = s.addr
  abort : ∀ s, (π s).cfgTimedAbort = s.cfgTimedAbort
  reply : ∀ s, nextReply (π s) = nextReply s
  requests : ∀ s, (π s).requests = s.requests
  schedule : ∀ s, (π s).schedule = s.schedule
  reqL : ∀ s, s.phase ≠ .idle → (π s).reqL = s.reqL
  timer : ∀ s, s.phase = .wait → (π s).timer = s.timer
  idem : ∀ s, π (π s) = π s
  reschedule : ∀ s moves, π { s with schedule := moves } = { π s with schedule := moves }
  accepted : ∀ s w rest, π ((π s).accepted w rest) = π (s.accepted w rest)
  answered : ∀ s w rest status flag data a,
    π { (π s).answered w rest status flag data with addr := a } =
      π { s.answered w rest status flag data with addr := a }
  responded : ∀ s f, s.phase = .issue1 → π ((π s).wroteAndResponded f) = π (s.wroteAndResponded f)
  waiting : ∀ s f timer failed, s.phase = .issue1 →
    π { (π s).wrote f with timer := timer, motionErr := failed, phase := .wait } =
      π { s.wrote f with timer := timer, motionErr := failed, phase := .wait }
  ticked : ∀ s, s.phase = .wait → π { π s with timer := s.timer - 1 } = π { s with timer := s.timer - 1 }
  waitOver : ∀ s, s.phase = .wait → π { π s with phase := .issue2 } = π { s with phase := .issue2 }
  stopped : ∀ s, s.phase = .issue2 → π (issueStop (π s)) = π (issueStop s)
  delivered : ∀ s, s.phase = .respond → π (takeResponse (π s)) = π (takeResponse s)
  cut : ∀ s p sent, π ((π s).cut p sent) = π (s.cut p sent)
  reset : ∀ a d s, π (resetBlock a d (π s)) = π (resetBlock a d s)

/-! ## Steps on which every instruction agrees -/

/-- With no request presented every instruction is silent in IDLE (R224). -/
theorem exec_silent (i : Instr) {s : State} (hp : s.phase = .idle) (hr : s.requests = []) : exec i s = .next s := by
  obtain ⟨t, e⟩ := exec_next i s (by simp [hp])
  rcases exec_cases e with ⟨_, _, rfl⟩ | ⟨_, _, _, h, _⟩ | ⟨_, _, _, _, _, _, _, h, _⟩ | ⟨_, h, _⟩ | ⟨h, _⟩ | ⟨h, _⟩ |
    ⟨h, _⟩
  case inl => exact e
  case inr.inl => cases hr.symm.trans h
  case inr.inr.inl => cases hr.symm.trans h
  all_goals exact absurd (hp.symm.trans h) (by decide)

/-- Only an operation with a frame has a step in ISSUE1 (R95; log 15). -/
theorem issuesFrame_of_exec_issue1 {i : Instr} {s t : State} (hp : s.phase = .issue1) (e : exec i s = .next t) :
    i.issuesFrame = true := by
  rcases exec_cases e with ⟨h, _⟩ | ⟨_, _, h, _⟩ | ⟨_, _, _, _, _, _, h, _⟩ | ⟨_, _, hi, _⟩ | ⟨h, _⟩ | ⟨h, _⟩ | ⟨h, _⟩
  case inr.inr.inr.inl => exact hi
  all_goals exact absurd (hp.symm.trans h) (by decide)

theorem waitStep_over {s : State} (h : s.timer = 0) : waitStep s = { s with phase := .issue2 } := if_pos h

theorem waitStep_tick {s : State} (h : s.timer ≠ 0) : waitStep s = { s with timer := s.timer - 1 } := if_neg h

theorem cutWrite_of_idle (sent : Fin 8) {s : State} (hp : s.phase = .idle) : cutWrite sent s = s := by
  simp [cutWrite, hp]

namespace Hides

variable {π : State → State} (h : Hides π)
include h

/-! ## One instruction -/

/-- The ISSUE1 step takes the same of its two outcomes. -/
theorem wroteAndTimed {s : State} (hp : s.phase = .issue1) (f : Frame) (dur : Duration) :
    π ((π s).wroteAndTimed f dur) = π (s.wroteAndTimed f dur) := by
  unfold State.wroteAndTimed
  rw [h.reply, h.abort]
  split
  · exact h.waiting s f _ _ hp
  · exact h.responded s f hp

/-- The WAIT step reads TIMER alone, which is shown there. -/
theorem waitStep {s : State} (hp : s.phase = .wait) : π (waitStep (π s)) = π (waitStep s) := by
  by_cases ht : s.timer = 0
  · rw [waitStep_over ht, waitStep_over ((h.timer s hp).trans ht)]
    exact h.waitOver s hp
  · rw [waitStep_tick ht, waitStep_tick (by rwa [h.timer s hp]), h.timer s hp]
    exact h.ticked s hp

/-- Where there is a request, accepting it into ISSUE1 or answering it shows alike. -/
theorem exec_presented {i : Instr} {s t : State} {w : ReqWord} {rest : List ReqWord} (hp : s.phase = .idle)
    (hr : s.requests = w :: rest) (e : exec i s = .next t) : ∃ u, exec i (π s) = .next u ∧ π u = π t := by
  have hpπ := (h.phase s).trans hp
  have hrπ := (h.requests s).trans hr
  cases hi : i.issuesFrame with
  | true =>
    cases e.symm.trans (acceptingStep i s w rest hi hp hr)
    exact ⟨_, acceptingStep i (π s) w rest hi hpπ hrπ, h.accepted s w rest⟩
  | false =>
    obtain ⟨status, flag, data, addr, ei, _⟩ := exec_noFrame i hi
    rw [ei, immediate_presented hp hr] at e
    cases e
    refine ⟨_, (ei _).trans (immediate_presented hpπ hrπ _), ?_⟩
    rw [h.addr]
    exact h.answered s w rest status flag data _

/-- An instruction shows the same outcome, phase by phase. -/
theorem exec_agrees {i : Instr} {s t : State} (e : exec i s = .next t) : ∃ u, exec i (π s) = .next u ∧ π u = π t := by
  cases hp : s.phase with
  | idle =>
    cases hr : s.requests with
    | nil =>
      cases e.symm.trans (exec_silent i hp hr)
      exact ⟨_, exec_silent i ((h.phase s).trans hp) ((h.requests s).trans hr), h.idem s⟩
    | cons w rest => exact h.exec_presented hp hr e
  | issue1 =>
    obtain ⟨p, ei⟩ := exec_issuesFrame i (issuesFrame_of_exec_issue1 hp e)
    rw [ei, timedMotion_issue1 hp] at e
    cases e
    refine ⟨_, (ei _).trans (timedMotion_issue1 ((h.phase s).trans hp) p _), ?_⟩
    rw [h.addr]
    exact h.wroteAndTimed hp _ _
  | wait =>
    cases e.symm.trans (exec_wait i hp)
    exact ⟨_, exec_wait i ((h.phase s).trans hp), h.waitStep hp⟩
  | issue2 =>
    cases e.symm.trans (exec_issue2 i s hp)
    exact ⟨_, exec_issue2 i _ ((h.phase s).trans hp), h.stopped s hp⟩
  | respond =>
    cases e.symm.trans (exec_respond i hp)
    exact ⟨_, exec_respond i ((h.phase s).trans hp), h.delivered s hp⟩

/-! ## One step -/

/-- The word that the party runs is shown. -/
theorem runParty_agrees {s t : State} (e : runParty s = .next t) : ∃ u, runParty (π s) = .next u ∧ π u = π t := by
  rcases runParty_cases s with ⟨hp, hr, er⟩ | ⟨w, rest, hp, hr, er⟩ | ⟨hp, er⟩ <;> rw [er] at e
  · cases e
    exact ⟨_, runParty_silent ((h.phase s).trans hp) ((h.requests s).trans hr), h.idem s⟩
  · rw [runParty_presented ((h.phase s).trans hp) ((h.requests s).trans hr)]
    exact h.exec_agrees e
  · rw [runParty_busy (by rwa [h.phase]), h.reqL s hp]
    exact h.exec_agrees e

theorem awaitsDuty_eq (s : State) : awaitsDuty (π s) = awaitsDuty s := by
  unfold awaitsDuty
  rw [h.phase]
  cases hp : s.phase with
  | wait => exact congrArg (fun x => decide (x ≠ 0)) (h.timer s hp)
  | _ => rfl

/-- A reset during a write leaves the same outside: it cuts the same write, if any. -/
theorem cutWrite_agrees (sent : Fin 8) (s : State) : π (cutWrite sent (π s)) = π (cutWrite sent s) := by
  by_cases hp : s.phase = .idle
  · rw [cutWrite_of_idle sent hp, cutWrite_of_idle sent ((h.phase s).trans hp), h.idem]
  · rcases cutWrite_form sent s.phase s.reqL with hform | ⟨_, p, hform⟩
    · rw [(hform s rfl rfl).1, (hform (π s) (h.phase s) (h.reqL s hp)).1, h.idem]
    · rw [(hform s rfl rfl).1, (hform (π s) (h.phase s) (h.reqL s hp)).1]
      exact h.cut s p sent

theorem resetEvent_agrees (a : Byte) (d : Bool) (c : Option (Fin 8)) (s : State) :
    π (resetEvent a d c (π s)) = π (resetEvent a d c s) := by
  cases c with
  | none => exact h.reset a d s
  | some sent =>
    calc π (resetBlock a d (cutWrite sent (π s)))
        = π (resetBlock a d (π (cutWrite sent (π s)))) := (h.reset a d _).symm
      _ = π (resetBlock a d (π (cutWrite sent s))) := by rw [h.cutWrite_agrees]
      _ = π (resetBlock a d (cutWrite sent s)) := h.reset a d _

/-- What a view hides is never read: from what it shows a step leads to the same, as far as it shows. -/
theorem step_agrees {s t : State} (e : step s = .next t) : ∃ u, step (π s) = .next u ∧ π u = π t := by
  have hs := h.schedule s
  rcases step_cases s with ⟨hn, es⟩ | ⟨moves, hn, es⟩ | ⟨moves, hn, es⟩ | ⟨a, d, c, moves, hn, es⟩ |
    ⟨moves, hn, ⟨hd, es⟩ | ⟨hd, es⟩⟩ <;> rw [es] at e <;> rw [hn] at hs
  · rw [step_of_nil hs]
    exact h.runParty_agrees e
  · rw [step_of_proceed hs, ← h.reschedule]
    exact h.runParty_agrees e
  · cases e
    exact ⟨_, step_of_hold hs, by rw [← h.reschedule, h.idem]⟩
  · cases e
    exact ⟨_, step_of_reset hs, by rw [← h.reschedule, h.resetEvent_agrees]⟩
  · cases e
    exact ⟨_, step_stalled hs ((h.awaitsDuty_eq s).trans hd), h.idem s⟩
  · rw [step_of_stall hs ((h.awaitsDuty_eq s).trans hd)]
    exact h.runParty_agrees e

end Hides

/-! ## The three views -/

/-- Nothing but the echo reads CFG_DEBUG, and nothing reads the diagnostic stream (R201). -/
theorem hides_quiet : Hides State.quiet where
  phase _ := rfl
  addr _ := rfl
  abort _ := rfl
  reply _ := rfl
  requests _ := rfl
  schedule _ := rfl
  reqL _ _ := rfl
  timer _ _ := rfl
  idem _ := rfl
  reschedule _ _ := rfl
  accepted _ _ _ := rfl
  answered _ _ _ _ _ _ _ := rfl
  responded _ _ _ := rfl
  waiting _ _ _ _ _ := rfl
  ticked _ _ := rfl
  waitOver _ _ := rfl
  stopped s _ := by rw [issueStop_eq, issueStop_eq]; rfl
  delivered _ _ := rfl
  cut _ _ _ := rfl
  reset _ _ _ := rfl

/-- Nothing reads what has been observed (R31). -/
theorem hides_blind : Hides State.blind where
  phase _ := rfl
  addr _ := rfl
  abort _ := rfl
  reply _ := rfl
  requests _ := rfl
  schedule _ := rfl
  reqL _ _ := rfl
  timer _ _ := rfl
  idem _ := rfl
  reschedule _ _ := rfl
  accepted _ _ _ := rfl
  answered _ _ _ _ _ _ _ := rfl
  responded _ _ _ := rfl
  waiting _ _ _ _ _ := rfl
  ticked _ _ := rfl
  waitOver _ _ := rfl
  stopped s _ := by rw [issueStop_eq, issueStop_eq]; rfl
  delivered _ _ := rfl
  cut _ _ _ := rfl
  reset _ _ _ := rfl

theorem scrubbed_idem (s : State) : s.scrubbed.scrubbed = s.scrubbed := by
  unfold State.scrubbed
  cases s.phase <;> rfl

/-- Nothing reads a latch in a phase that does not use it (R20, R25, R26). -/
theorem hides_scrubbed : Hides State.scrubbed where
  phase _ := rfl
  addr _ := rfl
  abort _ := rfl
  reply _ := rfl
  requests _ := rfl
  schedule _ := rfl
  reqL _ hp := if_neg hp
  timer _ hp := if_pos hp
  idem := scrubbed_idem
  reschedule _ _ := rfl
  accepted _ _ _ := rfl
  answered _ _ _ _ _ _ _ := rfl
  responded s _ hp := by simp [State.scrubbed, State.wroteAndResponded, State.wrote, hp, nextReply]
  waiting s _ _ _ hp := by simp [State.scrubbed, State.wrote, hp, nextReply]
  ticked s hp := by simp [State.scrubbed, hp]
  waitOver s hp := by simp [State.scrubbed, hp]
  stopped s hp := by
    rw [issueStop_eq, issueStop_eq]
    simp [State.scrubbed, State.wroteAndResponded, State.wrote, hp, nextReply]
  delivered s hp := by simp [State.scrubbed, takeResponse, hp]
  cut s p sent := congrArg (State.cut · p sent) (scrubbed_idem s)
  reset _ _ _ := rfl

/-- Settles O50. -/
theorem debugToggleHasNoEffect : Obligations.DebugToggleHasNoEffect :=
  fun _ _ e => hides_quiet.step_agrees e

/-- Settles O51. -/
theorem observationsAreNeverRead : Obligations.ObservationsAreNeverRead :=
  fun _ _ e => hides_blind.step_agrees e

/-- Settles O52. -/
theorem unusedLatchesAreNeverRead : Obligations.UnusedLatchesAreNeverRead :=
  fun _ _ e => hides_scrubbed.step_agrees e

end Sys2Proof.Machine
end

section
/-! PROOFS. Runs of an operation under any holds: how long the wait is at least, that every operation in progress ends,
and the timed-motion contract (spec/41_motion.md R139, R143, R147, R148, spec/70_reset_and_hazards.md R235). -/

namespace Sys2Proof.Machine

/-! ## The wait as a lower bound -/

/-- One step of a wait with a tick to go, whoever moves: the schedule moves on, and TIMER falls by at most 1. -/
theorem step_of_waiting {s t : State} (hp : s.phase = .wait) (ht : s.timer ≠ 0) (hn : s.NoResetNow)
    (e : step s = .next t) :
    ∃ moves timer, (moves = s.schedule ∨ moves = s.schedule.tail) ∧ s.timer.toNat ≤ timer.toNat + 1 ∧
      t = { s with schedule := moves, timer := timer } := by
  obtain ⟨moves, hm, m⟩ := step_moved hn e
  cases m with
  | rests => exact ⟨moves, s.timer, hm, Nat.le_succ _, rfl⟩
  | waits =>
    refine ⟨moves, s.timer - 1, hm, ?_, waitStep_tick (s := { s with schedule := moves }) ht⟩
    bv_omega
  | accepts h => exact absurd (hp.symm.trans h) (by decide)
  | answers h => exact absurd (hp.symm.trans h) (by decide)
  | issues p h => exact absurd (hp.symm.trans h) (by decide)
  | stops h => exact absurd (hp.symm.trans h) (by decide)
  | delivers h => exact absurd (hp.symm.trans h) (by decide)

theorem noResetNow_of_within {s : State} {k : Nat} (h : s.NoResetWithin (k + 1)) : s.NoResetNow := by
  intro a d c rest hs
  exact h a d c (by simp [hs])

/-- What is left of the schedule after one step has no reset among its next moves. -/
theorem noReset_take {s : State} {k : Nat} {moves : List EnvMove} (h : s.NoResetWithin (k + 1))
    (hm : moves = s.schedule ∨ moves = s.schedule.tail) (a : Byte) (d : Bool) (c : Option (Fin 8)) :
    EnvMove.reset a d c ∉ moves.take k := by
  intro hmem
  apply h a d c
  rcases hm with rfl | rfl
  · exact (List.take_subset_take_left _ (Nat.le_succ k)) hmem
  · cases hs : s.schedule with
    | nil => simp [hs] at hmem
    | cons m rest =>
      rw [hs] at hmem
      exact List.mem_cons_of_mem m hmem

/-- Settles O54, by induction on the number of steps: each of them is a step of a wait with a tick to go. -/
theorem waitIsALowerBound : Obligations.WaitIsALowerBound := by
  intro k
  induction k with
  | zero =>
    intro s t hp _ _ e
    cases e
    exact ⟨hp, le_refl _, rfl, rfl, rfl, rfl, rfl⟩
  | succ k ih =>
    intro s t hp hn hk e
    cases hs : step s with
    | fault r => simp [steps, hs] at e
    | refused r => simp [steps, hs] at e
    | next u =>
      rw [steps_succ k hs] at e
      have ht : s.timer ≠ 0 := by bv_omega
      obtain ⟨moves, timer, hm, htick, rfl⟩ := step_of_waiting hp ht (noResetNow_of_within hn) hs
      obtain ⟨hwait, htimer, hrest⟩ := ih { s with schedule := moves, timer := timer } t hp
        (noReset_take hn hm) (by dsimp only; omega) e
      dsimp only at htimer
      exact ⟨hwait, by omega, hrest⟩

/-! ## Turns -/

/-- No reset comes and every party moves in the end (R234). -/
def State.Timely (s : State) : Prop := s.NoResetAhead ∧ s.DutiesMet

theorem timely_of_subset {s t : State} (hs : s.Timely) (h : ∀ m ∈ t.schedule, m ∈ s.schedule) : t.Timely := by
  obtain ⟨hreset, hstall⟩ := hs
  exact ⟨fun a d c hm => hreset a d c (h _ hm), fun hm => hstall (h _ hm)⟩

/-- From `s` a run of `turns` turns, and as many holds as the schedule puts between them, leads to `t`, but for what is
left of the schedule. -/
def State.Gets (s : State) (turns : Nat) (t : State) : Prop :=
  ∃ n moves, turns ≤ n ∧ n + moves.length ≤ turns + s.schedule.length ∧ (∀ m ∈ moves, m ∈ s.schedule) ∧
    steps n s = .next { t with schedule := moves }

theorem State.Gets.refl (s : State) : s.Gets 0 s := ⟨0, s.schedule, le_refl 0, le_refl _, fun _ hm => hm, rfl⟩

/-- No step reads the moves that come after it. -/
theorem wroteAndTimed_with_schedule (s : State) (moves : List EnvMove) (f : Frame) (dur : Duration) :
    ({ s with schedule := moves } : State).wroteAndTimed f dur =
      { s.wroteAndTimed f dur with schedule := moves } := by
  by_cases h : dur ≠ 0 ∧ (replyAnswer (nextReply s) = .ok ∨ s.cfgTimedAbort = false)
  · have e : s.wroteAndTimed f dur = _ := if_pos h
    have e' : ({ s with schedule := moves } : State).wroteAndTimed f dur = _ := if_pos h
    rw [e, e']
    rfl
  · have e : s.wroteAndTimed f dur = _ := if_neg h
    have e' : ({ s with schedule := moves } : State).wroteAndTimed f dur = _ := if_neg h
    rw [e, e']
    rfl

theorem issueStop_with_schedule (s : State) (moves : List EnvMove) :
    issueStop { s with schedule := moves } = { issueStop s with schedule := moves } := by
  rw [issueStop_eq, issueStop_eq]
  rfl

namespace State.Gets

section
variable {s t : State} {turns : Nat} (hs : s.Timely) (h : s.Gets turns t)
include hs h

/-- After the holds in front the party whose turn it is makes one turn more. -/
theorem turn {u : State}
    (hturn : ∀ moves, runParty { t with schedule := moves } = .next { u with schedule := moves }) :
    s.Gets (turns + 1) u := by
  obtain ⟨n, moves, hn, hlen, hmem, e⟩ := h
  obtain ⟨hreset, hstall⟩ := timely_of_subset (t := { t with schedule := moves }) hs hmem
  obtain ⟨n', moves', hn', hlen', hmem', hrun⟩ :=
    steps_past_holds moves { t with schedule := moves } rfl hreset hstall
  exact ⟨n + n', moves', by omega, by omega, fun m hm => hmem m (hmem' m hm),
    (steps_add n' e).trans (hrun _ 0 (hturn moves'))⟩

/-- While an operation is in progress the turn is the latched instruction's. -/
theorem turn_busy {u : State} (hp : t.phase ≠ .idle)
    (hturn : ∀ moves, exec (decode t.reqL) { t with schedule := moves } = .next { u with schedule := moves }) :
    s.Gets (turns + 1) u :=
  h.turn hs fun moves => (runParty_busy (s := { t with schedule := moves }) hp).trans (hturn moves)

theorem accepted {w : ReqWord} {rest : List ReqWord} (hp : t.phase = .idle) (hr : t.requests = w :: rest)
    (hi : (decode w).issuesFrame = true) : s.Gets (turns + 1) (t.accepted w rest) :=
  h.turn hs fun moves =>
    (runParty_presented (s := { t with schedule := moves }) hp hr).trans
      (acceptingStep (decode w) { t with schedule := moves } w rest hi hp hr)

/-- The turn of ISSUE1, of an operation that moves with the payload `p`. -/
theorem issued {p : Payload} {dur : Duration} (hp : t.phase = .issue1)
    (hi : ∀ u, exec (decode t.reqL) u = timedMotion p dur u) :
    s.Gets (turns + 1) (t.wroteAndTimed (encodeFrame t.addr p) dur) :=
  h.turn_busy hs (by simp [hp]) fun moves => by
    rw [hi, timedMotion_issue1 (s := { t with schedule := moves }) hp, wroteAndTimed_with_schedule]

theorem stopped (hp : t.phase = .issue2) : s.Gets (turns + 1) (issueStop t) :=
  h.turn_busy hs (by simp [hp]) fun moves => by
    rw [exec_issue2 _ { t with schedule := moves } hp, issueStop_with_schedule]

theorem delivered (hp : t.phase = .respond) : s.Gets (turns + 1) (takeResponse t) :=
  h.turn_busy hs (by simp [hp]) fun moves => exec_respond _ (s := { t with schedule := moves }) hp

end

/-- The turns of WAIT: one a tick and one into ISSUE2. -/
theorem waited {s : State} (hs : s.Timely) (k : Nat) : ∀ (turns : Nat) (t : State), s.Gets turns t →
      t.phase = .wait → t.timer.toNat = k →
      s.Gets (turns + k + 1) { t with timer := 0, phase := .issue2 } := by
  induction k with
  | zero =>
    intro turns t h hp hk
    have ht : t.timer = 0 := by bv_omega
    refine h.turn_busy hs (by simp [hp]) fun moves => ?_
    rw [exec_wait (s := { t with schedule := moves }) _ hp, waitStep_over (s := { t with schedule := moves }) ht, ← ht]
  | succ k ih =>
    intro turns t h hp hk
    have ht : t.timer ≠ 0 := by bv_omega
    have htick : s.Gets (turns + 1) { t with timer := t.timer - 1 } := by
      refine h.turn_busy hs (by simp [hp]) fun moves => ?_
      rw [exec_wait (s := { t with schedule := moves }) _ hp, waitStep_tick (s := { t with schedule := moves }) ht]
    rw [← Nat.add_assoc, Nat.add_right_comm turns k 1]
    exact ih (turns + 1) { t with timer := t.timer - 1 } htick hp (by dsimp only; bv_omega)

/-- From WAIT to the latched response: the ticks, the step into ISSUE2 and the stop frame. -/
theorem waited_stopped {s t : State} {turns : Nat} (hs : s.Timely) (h : s.Gets turns t) (hp : t.phase = .wait) :
    s.Gets (turns + t.timer.toNat + 2) (issueStop { t with timer := 0, phase := .issue2 }) :=
  (waited hs t.timer.toNat turns t h hp rfl).stopped hs rfl

end State.Gets

/-! ## Every operation in progress ends -/

/-- `t` has the operation of `s` behind it: one response more, at most two writes more, and no request taken. -/
structure Ended (s t : State) : Prop where
  phase : t.phase = .idle
  requests : t.requests = s.requests
  addr : t.addr = s.addr
  responses : ∃ r, t.responses = s.responses ++ [r]
  writes : ∃ l, t.writes = s.writes ++ l ∧ l.length ≤ 2

theorem ended_of_respond (s : State) : Ended s (takeResponse s) :=
  ⟨rfl, rfl, rfl, ⟨_, rfl⟩, [], (List.append_nil _).symm, by decide⟩

theorem ended_of_wroteAndResponded (s : State) (f : Frame) : Ended s (takeResponse (s.wroteAndResponded f)) :=
  ⟨rfl, rfl, rfl, ⟨_, rfl⟩, [_], rfl, by simp⟩

/-- The stop write comes on top of what the operation had written before it. -/
theorem ended_of_issueStop {s u : State} (hr : u.requests = s.requests) (ha : u.addr = s.addr)
    (hd : u.responses = s.responses) {l : List SinkWrite} (hw : u.writes = s.writes ++ l) (hl : l.length ≤ 1) :
    Ended s (takeResponse (issueStop u)) where
  phase := rfl
  requests := (issueStop_requests u).trans hr
  addr := (issueStop_addr u).trans ha
  responses := ⟨_, by rw [takeResponse_responses, issueStop_responses, hd]⟩
  writes := by
    refine ⟨l ++ [⟨stopFrame u.addr, replyAnswer (nextReply u)⟩], ?_, ?_⟩
    · rw [takeResponse_writes, issueStop_writes, hw, List.append_assoc]
    · rw [List.length_append, List.length_singleton]
      omega

/-- From each busy phase the operation ends within the turns that `stepsLeft` counts. -/
theorem gets_ended {s : State} (hs : s.Timely) (hinv : s.Inv) (hp : s.phase ≠ .idle) :
    ∃ turns t, turns ≤ s.stepsLeft ∧ s.Gets turns t ∧ Ended s t := by
  have hrefl := State.Gets.refl s
  cases hphase : s.phase with
  | idle => exact absurd hphase hp
  | issue1 =>
    have hleft : s.stepsLeft = (decode s.reqL).duration.toNat + 4 := by simp [State.stepsLeft, hphase]
    obtain ⟨p, hi⟩ := exec_issuesFrame (decode s.reqL) (hinv.issue1_frame hphase)
    have hissued := hrefl.issued hs hphase hi
    rcases wroteAndTimed_cases s (encodeFrame s.addr p) (decode s.reqL).duration with ⟨_, e⟩ | e <;> rw [e] at hissued
    · refine ⟨_, _, ?_, (hissued.waited_stopped hs rfl).delivered hs (issueStop_phase _),
        ended_of_issueStop rfl rfl rfl rfl (le_refl 1)⟩
      dsimp only
      omega
    · exact ⟨_, _, by omega, hissued.delivered hs rfl, ended_of_wroteAndResponded s _⟩
  | wait =>
    have hleft : s.stepsLeft = s.timer.toNat + 3 := by simp [State.stepsLeft, hphase]
    exact ⟨_, _, by omega, (hrefl.waited_stopped hs hphase).delivered hs (issueStop_phase _),
      ended_of_issueStop rfl rfl rfl (List.append_nil _).symm (Nat.zero_le 1)⟩
  | issue2 =>
    have hleft : s.stepsLeft = 2 := by simp [State.stepsLeft, hphase]
    exact ⟨_, _, hleft.ge, (hrefl.stopped hs hphase).delivered hs (issueStop_phase s),
      ended_of_issueStop rfl rfl rfl (List.append_nil _).symm (Nat.zero_le 1)⟩
  | respond =>
    have hleft : s.stepsLeft = 1 := by simp [State.stepsLeft, hphase]
    exact ⟨_, _, hleft.ge, hrefl.delivered hs hphase, ended_of_respond s⟩

/-- Settles O55: the run that ends the operation, with the steps that the holds take counted against the schedule. -/
theorem everyOperationEnds : Obligations.EveryOperationEnds := by
  intro s hinv hreset hstall hp
  obtain ⟨turns, t, hturns, ⟨n, moves, _, hlen, _, e⟩, hended⟩ := gets_ended ⟨hreset, hstall⟩ hinv hp
  exact ⟨n, { t with schedule := moves }, by omega, e, hended.phase, hended.requests, hended.addr, hended.responses,
    hended.writes⟩

/-! ## The timed-motion contract -/

theorem issuesFrame_of_timedAs {i : Instr} {p : Payload} {dur : Duration} (h : i.TimedAs p dur) :
    i.issuesFrame = true := by
  cases h <;> rfl

/-- From the presented request to the end of ISSUE1, in two turns. -/
theorem gets_motion {s : State} {w : ReqWord} {rest : List ReqWord} {p : Payload} {dur : Duration} (hs : s.Timely)
    (hp : s.phase = .idle) (hr : s.requests = w :: rest) (hw : (decode w).TimedAs p dur) :
    s.Gets 2 ((s.accepted w rest).wroteAndTimed (encodeFrame s.addr p) dur) :=
  ((State.Gets.refl s).accepted hs hp hr (issuesFrame_of_timedAs hw)).issued hs rfl (exec_timedAs hw)

/-- With a duration, and a write that does not abort, the motion frame is followed by the wait (R140, R147). -/
theorem wroteAndTimed_eq_wait {s : State} {dur : Duration} (hd : dur ≠ 0)
    (h : replyAnswer (nextReply s) = .ok ∨ s.cfgTimedAbort = false) (f : Frame) :
    s.wroteAndTimed f dur =
      { s.wrote f with timer := dur, motionErr := decide (replyAnswer (nextReply s) = .err), phase := .wait } :=
  if_pos ⟨hd, h⟩

/-- The status after the stop write counts the motion write that it remembers, unless that one aborts (R147). -/
theorem stopStatus_eq_twoWriteStatus {motion stop : SinkAnswer} {abort : Bool} (h : motion = .ok ∨ abort = false) :
    (if abort = false ∧ decide (motion = .err) = true then Status.sinkIoError else stop.status) =
      twoWriteStatus motion stop := by
  cases motion with
  | ok => cases stop <;> simp [twoWriteStatus, SinkAnswer.status]
  | err =>
    have habort : abort = false := h.resolve_left (by decide)
    simp [habort, twoWriteStatus]

/-- The ISSUE2 step that comes after a motion write, whose answer is remembered. -/
theorem issueStop_after_motion {s : State} (h : replyAnswer (nextReply s) = .ok ∨ s.cfgTimedAbort = false) (f : Frame) :
    issueStop { s.wrote f with
        timer := 0, motionErr := decide (replyAnswer (nextReply s) = .err), phase := .issue2 } =
      { (s.wrote f).wroteAndResponded (stopFrame s.addr) with
        statusL := twoWriteStatus (replyAnswer (nextReply s)) (replyAnswer (nextReply s.afterReply))
        timer := Config.freeTimer (s.draws + 2)
        draws := s.draws + 3
        motionErr := decide (replyAnswer (nextReply s) = .err) } := by
  rw [issueStop_eq, ← stopStatus_eq_twoWriteStatus h]
  rfl

/-- Settles O53: without a wait the run ends with ISSUE1; with one, it goes on through the ticks to the stop frame,
whose reply is the one after the motion frame's. -/
theorem timedMotionContract : Obligations.TimedMotionContract := by
  intro s w rest p dur hp hreset hstall hr hw
  have hs : s.Timely := ⟨hreset, hstall⟩
  have hmotion := gets_motion hs hp hr hw
  refine ⟨fun h => ?_, fun hd h => ?_⟩
  · rw [wroteAndTimed_eq_responded (s := s.accepted w rest) h] at hmotion
    obtain ⟨n, moves, _, _, _, e⟩ := hmotion
    exact ⟨n, moves, e⟩
  · rw [wroteAndTimed_eq_wait (s := s.accepted w rest) hd h] at hmotion
    have hstopped := hmotion.waited_stopped hs rfl
    dsimp only at hstopped
    rw [issueStop_after_motion (s := s.accepted w rest) h] at hstopped
    obtain ⟨n, moves, hn, _, _, e⟩ := hstopped
    exact ⟨n, _, _, _, _, moves, by omega, e, rfl⟩

end Sys2Proof.Machine
end
